-- ==== Sys2Proof/Word.lean ====
section
/-! DEFINITION. Word types of the block: the 32-bit registers (R20), the message byte (R54) and the 16-bit command word (R50). -/

namespace Sys2Proof

/-- A 32-bit register or port value (ACC_W = RESULT_W = 32, R7). -/
abbrev Word := BitVec 32

/-- One byte of a message (R41, R54). -/
abbrev Byte := BitVec 8

/-- One command word (CMD_W = 16, R7, R50). -/
abbrev CommandWord := BitVec 16

end Sys2Proof
end

