-- ==== Sys2Proof/Syntax.lean ====
section
/-! DEFINITION. Syntax: the eleven algorithms (R26), the seven causes of a protocol error (R152) and the five commands (R52). -/

namespace Sys2Proof

/-- The eleven algorithms in the order of R26. NONE is no algorithm: the register ALG is an `Option Alg`. -/
inductive Alg where
  | sum8 | sum16 | sum32 | xor8 | bsdsum | sysv
  | fletcher16 | fletcher32 | adler32 | crc32a | crc32b
  deriving DecidableEq, Repr

/-- The causes a protocol error can have, in the order of the codes 1 to 7 of R152. -/
inductive ProtocolError where
  | reservedOpcode
  | nonZeroField
  | reservedAlgorithm
  | selectWhileBusy
  | startNoAlgorithm
  | absorbWhileIdle
  | finalWhileIdle
  deriving DecidableEq, Repr

/-- The five commands, one per row of spec/opcode_table.json (R52). SELECT keeps its 4-bit `alg` field (R54);
WellFormed says which codes are legal. -/
inductive Instr where
  | nop
  | select (a : BitVec 4)
  | start
  | absorb (b : Byte)
  | final
  deriving DecidableEq, Repr

end Sys2Proof
end

