-- ==== Sys2Proof/WellFormed.lean ====
section
/-! DEFINITION. Which command terms are commands of the block: SELECT takes the codes 0x0 to 0xA only (R57); every other
operand value is legal (R52, R54). -/

namespace Sys2Proof

/-- The check on a command's operands. -/
def Instr.wellFormed : Instr → Bool
  | .nop => true
  | .select a => a.toNat ≤ 0xA
  | .start => true
  | .absorb _ => true
  | .final => true

/-- A well-formed command: one of the 270 legal ones of R52. -/
abbrev WellFormed (i : Instr) : Prop := i.wellFormed = true

end Sys2Proof
end

