-- ==== Sys2Proof/Decode.lean ====
section
/-! DEFINITION. The command word: fields (R51), codes (R26, R152), the total decoder (R59), the encoder (R52, R53) and
the match and mask of each command (R52). -/

namespace Sys2Proof

/-- `op = w[15:12]` (R51). -/
def opField (w : CommandWord) : BitVec 4 := w.extractLsb' 12 4

/-- `alg = w[11:8]` (R51). -/
def algField (w : CommandWord) : BitVec 4 := w.extractLsb' 8 4

/-- `data = w[7:0]` (R51). -/
def dataField (w : CommandWord) : Byte := w.extractLsb' 0 8

/-- The code of an algorithm (R26). -/
def Alg.code : Alg → BitVec 4
  | .sum8 => 0x0
  | .sum16 => 0x1
  | .sum32 => 0x2
  | .xor8 => 0x3
  | .bsdsum => 0x4
  | .sysv => 0x5
  | .fletcher16 => 0x6
  | .fletcher32 => 0x7
  | .adler32 => 0x8
  | .crc32a => 0x9
  | .crc32b => 0xA

/-- The algorithm with a given code; none for the reserved codes 0xB to 0xF (R26, R57). -/
def Alg.ofCode? (a : BitVec 4) : Option Alg :=
  match a.toNat with
  | 0x0 => some .sum8
  | 0x1 => some .sum16
  | 0x2 => some .sum32
  | 0x3 => some .xor8
  | 0x4 => some .bsdsum
  | 0x5 => some .sysv
  | 0x6 => some .fletcher16
  | 0x7 => some .fletcher32
  | 0x8 => some .adler32
  | 0x9 => some .crc32a
  | 0xA => some .crc32b
  | _ => none

/-- The four bits the register ALG holds: an algorithm's code, or 0xF for NONE (R25, R26). -/
def algCode : Option Alg → BitVec 4
  | none => 0xF
  | some a => a.code

/-- The code of a cause (R152). -/
def ProtocolError.code : ProtocolError → BitVec 3
  | .reservedOpcode => 1
  | .nonZeroField => 2
  | .reservedAlgorithm => 3
  | .selectWhileBusy => 4
  | .startNoAlgorithm => 5
  | .absorbWhileIdle => 6
  | .finalWhileIdle => 7

/-- The three bits the field CAUSE holds: 0 while there was no error since reset (R32, R152). -/
def causeCode : Option ProtocolError → BitVec 3
  | none => 0
  | some c => c.code

/-- What the decoder answers: a command, or `Illegal(cause)` (R59). -/
inductive Decoded where
  | legal (i : Instr)
  | illegal (c : ProtocolError)
  deriving DecidableEq, Repr

/-- The decoder of R59: total on 16-bit words, the first case that applies, never looking at the state. -/
def decode (w : CommandWord) : Decoded :=
  let op := opField w
  let alg := algField w
  let data := dataField w
  if 0x5 ≤ op.toNat then .illegal .reservedOpcode
  else if op = 0x0 ∧ (alg ≠ 0 ∨ data ≠ 0) then .illegal .nonZeroField
  else if op = 0x1 ∧ data ≠ 0 then .illegal .nonZeroField
  else if op = 0x2 ∧ (alg ≠ 0 ∨ data ≠ 0) then .illegal .nonZeroField
  else if op = 0x3 ∧ alg ≠ 0 then .illegal .nonZeroField
  else if op = 0x4 ∧ (alg ≠ 0 ∨ data ≠ 0) then .illegal .nonZeroField
  else if op = 0x1 ∧ 0xB ≤ alg.toNat then .illegal .reservedAlgorithm
  else if op = 0x0 then .legal .nop
  else if op = 0x1 then .legal (.select alg)
  else if op = 0x2 then .legal .start
  else if op = 0x3 then .legal (.absorb data)
  else .legal .final

/-- A command word from its three fields (R51). -/
def packWord (op alg : BitVec 4) (data : Byte) : CommandWord := op ++ alg ++ data

/-- The word of a command (R52, R53, R60). -/
def encode : Instr → CommandWord
  | .nop => packWord 0x0 0 0
  | .select a => packWord 0x1 a 0
  | .start => packWord 0x2 0 0
  | .absorb b => packWord 0x3 0 b
  | .final => packWord 0x4 0 0

/-- The column `match` of R52. -/
def Instr.matchWord : Instr → CommandWord
  | .nop => 0x0000
  | .select _ => 0x1000
  | .start => 0x2000
  | .absorb _ => 0x3000
  | .final => 0x4000

/-- The column `mask` of R52. -/
def Instr.maskWord : Instr → CommandWord
  | .nop => 0xFFFF
  | .select _ => 0xF0FF
  | .start => 0xFFFF
  | .absorb _ => 0xFF00
  | .final => 0xFFFF

/-- The 16-bit word of a table row: the row's low `nbits` bits, every bit above them zero (log 3). -/
def tableWord (nbits w : Nat) : CommandWord := BitVec.ofNat 16 (w % 2 ^ nbits)

/-- The command the decoder reads from a table row's word; none where it answers `Illegal`. -/
def decodeTableWord (nbits w : Nat) : Option Instr :=
  match decode (tableWord nbits w) with
  | .legal i => some i
  | .illegal _ => none

end Sys2Proof
end

