-- ==== Sys2Proof/Config.lean ====
section
/-! DEFINITION. The three parameters the spec leaves open (R7) and the free values: constants with no body for the
few results the spec does not state. -/

namespace Sys2Proof

/-- SUM32_W: the width of the SUM32 mask, one of 16, 24 and 32 (R7, R90). -/
inductive Sum32Width where
  | w16 | w24 | w32
  deriving DecidableEq, Repr

/-- LEN_ORDER: the order in which CRC32A folds the bytes of the length (R7, R127). -/
inductive LenOrder where
  | lsbFirst | msbFirst
  deriving DecidableEq, Repr

/-- The open parameters of R7. They are arguments of the step relation, not registers (R38); State carries them and no
step writes them (log 2). -/
structure Config where
  sum32W : Sum32Width
  lenOrder : LenOrder
  lenW : Nat
  deriving DecidableEq, Repr

/-- FREE VALUE (DESIGN CHOICE, log 6): what ABSORB writes to ACC0 when BUSY = 1 and ALG = NONE. R74's table has no row
for NONE; R39 says no run reaches such a state. -/
opaque Config.freeUpdate : Config → Word → Word → Byte → Word

/-- FREE VALUE (DESIGN CHOICE, log 6): what FINAL writes to RESULT when BUSY = 1 and ALG = NONE. R75's table has no row
for NONE. -/
opaque Config.freeFinal : Config → Word → Word → Nat → Word

/-- FREE VALUE (DESIGN CHOICE, log 7): what RESULT receives when a composed checksum does not fit its 32 bits. No state
that meets the bounds of R23 gives such a value. -/
opaque Config.freeComposition : Nat → Word

end Sys2Proof
end

