-- ==== Sys2Proof/Machine/Params.lean ====
section
/-! DEFINITION. The default values of the open parameters and what a parameter value stands for (R7). -/

namespace Sys2Proof

/-- The mask width in bits that a value of SUM32_W stands for (R7). -/
def Sum32Width.bits : Sum32Width → Nat
  | .w16 => 16
  | .w24 => 24
  | .w32 => 32

/-- The defaults of R7: SUM32_W = 24, LEN_ORDER = lsb_first, LEN_W = 64. -/
def defaultConfig : Config := { sum32W := .w24, lenOrder := .lsbFirst, lenW := 64 }

end Sys2Proof
end

