-- ==== Sys2Proof/Machine/State.lean ====
section
/-! DEFINITION. The state of one block instance: the nine elements of R20, the parameters of R7 and the inputs the host
presents next; the stops; the state right after reset (R37). -/

namespace Sys2Proof.Machine

/-- What the host can do to the block (R146): present a 16-bit word as a command, or apply reset (R170). Reading a port is
no input: it changes nothing (R44). -/
inductive HostInput where
  | command (w : CommandWord)
  | reset
  deriving DecidableEq, Repr

/-- The state of the block. -/
structure State where
  /-- ACC0 (R21). -/
  acc0 : Word
  /-- ACC1 (R22). -/
  acc1 : Word
  /-- LEN, a LEN_W-bit counter: every write reduces it mod 2^LEN_W (R24, log 4). -/
  len : Nat
  /-- ALG (R25); `none` is the spec's NONE, code 0xF (log 5). -/
  alg : Option Alg
  /-- RESULT (R27). -/
  result : Word
  /-- BUSY (R29). -/
  busy : Bool
  /-- VALID (R30). -/
  valid : Bool
  /-- ERR (R31). -/
  err : Bool
  /-- CAUSE (R32); `none` is the spec's code 0 (log 5). -/
  cause : Option ProtocolError
  /-- The model's own field: the open parameters of this block, which no step writes (R38, log 2). -/
  config : Config
  /-- The model's own field: what the host presents next, oldest first (R38, R46, log 1). -/
  inputs : List HostInput
  deriving DecidableEq, Repr

/-- Reasons the machine stops with a fault. There are none: every word in every state has exactly one next state (R70),
a protocol error is a next state (R154). -/
inductive Fault where
  deriving DecidableEq, Repr

/-- Reasons an instruction is refused. -/
inductive Refusal where
  /-- Raised only by an arm of `exec` for an instruction without a meaning (safe: the run stops); no arm raises it. -/
  | notModelled (mnemonic : String)
  deriving DecidableEq, Repr

/-- The state right after reset with parameters `c`: every element at its value in R37, nothing presented yet. -/
def State.resetWith (c : Config) : State :=
  { acc0 := 0x00000000, acc1 := 0x00000000, len := 0, alg := none, result := 0x00000000
    busy := false, valid := false, err := false, cause := none, config := c, inputs := [] }

/-- The state right after reset (R37, R170), with the default parameters of R7. -/
def State.reset : State := State.resetWith defaultConfig

end Sys2Proof.Machine
end

