-- ==== Sys2Proof/Machine/Flags.lean ====
section
/-! DEFINITION. The status flags: what sets and clears BUSY, VALID, ERR and CAUSE (R29 to R32) and the STATUS port (R28). -/

namespace Sys2Proof.Machine

/-- VALID <- 0: the effect of SELECT on the flags (R72). -/
def clearValid (s : State) : State := { s with valid := false }

/-- BUSY <- 1, VALID <- 0: the effect of START on the flags (R73). -/
def flagsOpen (s : State) : State := { s with busy := true, valid := false }

/-- BUSY <- 0, VALID <- 1: the effect of FINAL on the flags (R75). -/
def flagsClosed (s : State) : State := { s with busy := false, valid := true }

/-- ERR <- 1, and CAUSE <- c if ERR was 0: only the first error since reset is recorded (R31, R32, R154). -/
def recordError (c : ProtocolError) (s : State) : State :=
  { s with err := true, cause := if s.err then s.cause else some c }

/-- The STATUS port (R28): BUSY in bit 0, VALID in bit 1, ERR in bit 2, CAUSE in bits 5:3. -/
def statusPort (s : State) : BitVec 6 :=
  causeCode s.cause ++ BitVec.ofBool s.err ++ BitVec.ofBool s.valid ++ BitVec.ofBool s.busy

end Sys2Proof.Machine
end

