-- ==== Sys2Proof/Machine/Operands.lean ====
section
/-! DEFINITION. Operands and widths: registers and bytes as natural numbers, and the narrowing a rule writes out (R8, R9, R54). -/

namespace Sys2Proof.Machine

/-- The message byte as the number 0 .. 255 it enters every formula as (R54, R81). -/
def byteValue (b : Byte) : Nat := b.toNat

/-- The byte zero-extended to the 32 bits of a register (R81). -/
def byteWord (b : Byte) : Word := BitVec.ofNat 32 (byteValue b)

/-- A number below 2^32 as a register value; every use reduces it first, by the mask or the modulus its rule writes. -/
def narrow (n : Nat) : Word := BitVec.ofNat 32 n

/-- `v & (2^k - 1)` (R80). -/
def maskLow (k v : Nat) : Nat := v &&& (2 ^ k - 1)

/-- A composed checksum on its way to the 32-bit RESULT (R27): itself where it fits; where it does not, the spec states no
value and the model takes a free one (log 7). -/
def publish (n : Nat) : Word := if n < 2 ^ 32 then narrow n else Config.freeComposition n

end Sys2Proof.Machine
end

