-- ==== Sys2Proof/Machine/Ops.lean ====
section
/-! DEFINITION. The shared operations on the state: raising a protocol error, reset, admission, the register writes of the
commands, taking the next input, and the ports RESULT and POLY. -/

namespace Sys2Proof.Machine

/-- `raise ProtocolError(c)` (R154): the block's only exception. It records and goes on; nothing else is written, no
handler is entered and nothing is saved. There is no return from it (R155). -/
def raiseProtocolError (c : ProtocolError) (s : State) : State := recordError c s

/-- The reset event (R170): every element to its reset value, the only way to clear ERR and CAUSE (R155). The parameters
and the inputs still to come are not the block's (R38) and stay. -/
def resetEvent (s : State) : State := { State.resetWith s.config with inputs := s.inputs }

/-- The admission check of R70: where `refused` holds the step raises `c`, otherwise the command has its effect `t`. -/
def admitUnless (refused : Bool) (c : ProtocolError) (s t : State) : Host.Outcome State Fault Refusal :=
  if refused then .next (raiseProtocolError c s) else .next t

/-- The writes of SELECT (R72). -/
def selectAlgorithm (a : Alg) (s : State) : State := clearValid { s with alg := some a }

/-- The writes of START (R73), given `init(ALG)`. -/
def openMessage (init : Word × Word) (s : State) : State :=
  flagsOpen { s with acc0 := init.1, acc1 := init.2, len := 0 }

/-- The writes of ABSORB (R74), given `update(ALG, ACC0, ACC1, b)`. -/
def absorbInto (new : Word × Word) (s : State) : State :=
  { s with acc0 := new.1, acc1 := new.2, len := (s.len + 1) % 2 ^ s.config.lenW }

/-- The writes of FINAL (R75), given `final(ALG, ACC0, ACC1, LEN)` = (res, new ACC0). -/
def closeMessage (out : Word × Word) (s : State) : State :=
  flagsClosed { s with result := out.1, acc0 := out.2 }

/-- The input the host presents next, and the state once it has been taken from the channel (R46). -/
def takeInput (s : State) : Option (HostInput × State) :=
  match s.inputs with
  | [] => none
  | x :: rest => some (x, { s with inputs := rest })

/-- The RESULT port: the register itself (R27). -/
def resultPort (s : State) : Word := s.result

/-- The generator polynomials (R121). -/
def polyA : Word := 0x04C11DB7

/-- See `polyA`. -/
def polyB : Word := 0xEDB88320

/-- The POLY port, a function of ALG (R33). -/
def polyPort (s : State) : Word :=
  match s.alg with
  | some .crc32a => polyA
  | some .crc32b => polyB
  | _ => 0x00000000

/-- What the host can observe: the ports (RESULT, STATUS, POLY) (R147). Reading them changes nothing (R44). -/
def observedPorts (s : State) : Word × BitVec 6 × Word := (resultPort s, statusPort s, polyPort s)

end Sys2Proof.Machine
end

