-- ==== Sys2Proof/Machine/CrcEngine.lean ====
section
/-! DEFINITION. The CRC engine: the two division steps, eight steps per byte, the length bytes, and init, update and final
of both variants (R120 to R132). Table-free. -/

namespace Sys2Proof.Machine

/-- `f` applied `n` times. -/
def repeatStep (f : Word → Word) : Nat → Word → Word
  | 0, r => r
  | n + 1, r => repeatStep f n (f r)

/-- One division step, Variant A direction: test bit 31, shift left, XOR (R122). -/
def divstepMsb (r : Word) : Word := if r.getLsbD 31 then (r <<< 1) ^^^ polyA else r <<< 1

/-- One division step, Variant B direction: test bit 0, shift right, XOR (R123). -/
def divstepLsb (r : Word) : Word := if r.getLsbD 0 then (r >>> 1) ^^^ polyB else r >>> 1

/-- `crca_byte(r, b)` (R125): the byte enters bits 31:24, then exactly eight steps. -/
def crcaByte (r : Word) (b : Byte) : Word := repeatStep divstepMsb 8 (r ^^^ (byteWord b <<< 24))

/-- `crcb_byte(r, b)` (R130): the byte enters bits 7:0, then exactly eight steps. -/
def crcbByte (r : Word) (b : Byte) : Word := repeatStep divstepLsb 8 (r ^^^ byteWord b)

/-- The base-256 digits of `n`, least significant first, none for 0; `fuel` bounds the recursion and `fuel = n` is enough. -/
def digits256 : Nat → Nat → List Byte
  | 0, _ => []
  | fuel + 1, n => if n = 0 then [] else BitVec.ofNat 8 (n &&& 0xFF) :: digits256 fuel (n >>> 8)

/-- `len_bytes(n)` (R127): as many bytes as `n` needs, in the order LEN_ORDER. -/
def lenBytes (o : LenOrder) (n : Nat) : List Byte :=
  match o with
  | .lsbFirst => digits256 n n
  | .msbFirst => (digits256 n n).reverse

/-- One's complement of a register (R9). -/
def complement32 (r : Word) : Word := r ^^^ 0xFFFFFFFF

/-- CRC32A (R124). -/
def crc32aInit : Word × Word := (0x00000000, 0)
/-- CRC32A (R125). -/
def crc32aUpdate (a0 a1 : Word) (b : Byte) : Word × Word := (crcaByte a0 b, a1)
/-- The drain of CRC32A: each length byte is processed like a data byte, and nothing follows (R128, 90_conflicts.md C4). -/
def crc32aDrain (o : LenOrder) (a0 : Word) (n : Nat) : Word := (lenBytes o n).foldl crcaByte a0
/-- CRC32A (R128): the complement is published and ACC0 receives the drained register (90_conflicts.md C1). -/
def crc32aFinal (o : LenOrder) (a0 : Word) (n : Nat) : Word × Word :=
  (complement32 (crc32aDrain o a0 n), crc32aDrain o a0 n)

/-- CRC32B (R129). -/
def crc32bInit : Word × Word := (0xFFFFFFFF, 0)
/-- CRC32B (R130). -/
def crc32bUpdate (a0 a1 : Word) (b : Byte) : Word × Word := (crcbByte a0 b, a1)
/-- CRC32B (R131): nothing is drained. -/
def crc32bFinal (a0 : Word) : Word × Word := (complement32 a0, a0)

end Sys2Proof.Machine
end

