-- ==== Sys2Proof/Machine/RunningSums.lean ====
section
/-! DEFINITION. The nine running sums: init, update and final of each (R83 to R109). Sums are formed as natural numbers and
only then reduced (R80). -/

namespace Sys2Proof.Machine

/-- `ror16_1(v)`: rotate right by one within 16 bits (R10, R96). -/
def ror16 (v : Nat) : Nat := ((v >>> 1) ||| ((v &&& 1) <<< 15)) &&& 0xFFFF

/-- The shape of SUM8, SUM16 and SUM32: add the byte, keep the low `k` bits. -/
def maskedSum (k : Nat) (a0 : Word) (b : Byte) : Word := narrow (maskLow k (a0.toNat + byteValue b))

/-- The shape of FLETCHER16, FLETCHER32 and ADLER32: two sums mod `m`, the second taking in the new first. -/
def twoSums (m : Nat) (a0 a1 : Word) (b : Byte) : Word × Word :=
  let s1 := (a0.toNat + byteValue b) % m
  let s2 := (a1.toNat + s1) % m
  (narrow s1, narrow s2)

/-- The output composition of the two-register sums: `(s2 << k) | s1`. -/
def composeHalves (k : Nat) (a0 a1 : Word) : Word := publish ((a1.toNat <<< k) ||| a0.toNat)

/-- SUM8 (R83). -/
def sum8Init : Word × Word := (0, 0)
/-- SUM8 (R84). -/
def sum8Update (a0 a1 : Word) (b : Byte) : Word × Word := (maskedSum 8 a0 b, a1)
/-- SUM8 (R85): (res, new ACC0). -/
def sum8Final (a0 : Word) : Word × Word := (a0, a0)

/-- SUM16 (R86). -/
def sum16Init : Word × Word := (0, 0)
/-- SUM16 (R87). -/
def sum16Update (a0 a1 : Word) (b : Byte) : Word × Word := (maskedSum 16 a0 b, a1)
/-- SUM16 (R88). -/
def sum16Final (a0 : Word) : Word × Word := (a0, a0)

/-- SUM32 (R89). -/
def sum32Init : Word × Word := (0, 0)
/-- SUM32 (R90): the mask has SUM32_W bits. -/
def sum32Update (w : Sum32Width) (a0 a1 : Word) (b : Byte) : Word × Word := (maskedSum w.bits a0 b, a1)
/-- SUM32 (R91). -/
def sum32Final (a0 : Word) : Word × Word := (a0, a0)

/-- XOR8 (R92). -/
def xor8Init : Word × Word := (0, 0)
/-- XOR8 (R93): no mask. -/
def xor8Update (a0 a1 : Word) (b : Byte) : Word × Word := (a0 ^^^ byteWord b, a1)
/-- XOR8 (R94). -/
def xor8Final (a0 : Word) : Word × Word := (a0, a0)

/-- BSDSUM (R95). -/
def bsdsumInit : Word × Word := (0, 0)
/-- BSDSUM (R96): rotate first, add second, mask last. -/
def bsdsumUpdate (a0 a1 : Word) (b : Byte) : Word × Word :=
  (narrow (maskLow 16 (ror16 a0.toNat + byteValue b)), a1)
/-- BSDSUM (R97). -/
def bsdsumFinal (a0 : Word) : Word × Word := (a0, a0)

/-- SYSV (R98). -/
def sysvInit : Word × Word := (0, 0)
/-- SYSV (R99): the sum is kept mod 2^32 (90_conflicts.md C3). -/
def sysvUpdate (a0 a1 : Word) (b : Byte) : Word × Word := (narrow ((a0.toNat + byteValue b) % 2 ^ 32), a1)
/-- The two folds of SYSV's sum (R100). -/
def sysvFold (s : Nat) : Nat :=
  let r := (s &&& 0xFFFF) + ((s >>> 16) &&& 0xFFFF)
  (r &&& 0xFFFF) + (r >>> 16)
/-- SYSV (R100). -/
def sysvFinal (a0 : Word) : Word × Word := (narrow (sysvFold a0.toNat), a0)

/-- FLETCHER16 (R101). -/
def fletcher16Init : Word × Word := (0, 0)
/-- FLETCHER16 (R102). -/
def fletcher16Update (a0 a1 : Word) (b : Byte) : Word × Word := twoSums 255 a0 a1 b
/-- FLETCHER16 (R103). -/
def fletcher16Final (a0 a1 : Word) : Word × Word := (composeHalves 8 a0 a1, a0)

/-- FLETCHER32 (R104). -/
def fletcher32Init : Word × Word := (0, 0)
/-- FLETCHER32 (R105): one byte at a time, not 16-bit words. -/
def fletcher32Update (a0 a1 : Word) (b : Byte) : Word × Word := twoSums 65535 a0 a1 b
/-- FLETCHER32 (R106). -/
def fletcher32Final (a0 a1 : Word) : Word × Word := (composeHalves 16 a0 a1, a0)

/-- ADLER32 (R107). -/
def adler32Init : Word × Word := (1, 0)
/-- ADLER32 (R108). -/
def adler32Update (a0 a1 : Word) (b : Byte) : Word × Word := twoSums 65521 a0 a1 b
/-- ADLER32 (R109). -/
def adler32Final (a0 a1 : Word) : Word × Word := (composeHalves 16 a0 a1, a0)

end Sys2Proof.Machine
end

