-- ==== Sys2Proof/Machine/Algorithms.lean ====
section
/-! DEFINITION. The three functions START, ABSORB and FINAL dispatch to, over the eleven algorithms (the tables of R73, R74,
R75), and their continuation to ALG = NONE. -/

namespace Sys2Proof.Machine

/-- `init(a)` (the table of R73). -/
def initState : Alg → Word × Word
  | .sum8 => sum8Init
  | .sum16 => sum16Init
  | .sum32 => sum32Init
  | .xor8 => xor8Init
  | .bsdsum => bsdsumInit
  | .sysv => sysvInit
  | .fletcher16 => fletcher16Init
  | .fletcher32 => fletcher32Init
  | .adler32 => adler32Init
  | .crc32a => crc32aInit
  | .crc32b => crc32bInit

/-- `update(a, a0, a1, b)` (the table of R74). -/
def updateState (c : Config) (a : Alg) (a0 a1 : Word) (b : Byte) : Word × Word :=
  match a with
  | .sum8 => sum8Update a0 a1 b
  | .sum16 => sum16Update a0 a1 b
  | .sum32 => sum32Update c.sum32W a0 a1 b
  | .xor8 => xor8Update a0 a1 b
  | .bsdsum => bsdsumUpdate a0 a1 b
  | .sysv => sysvUpdate a0 a1 b
  | .fletcher16 => fletcher16Update a0 a1 b
  | .fletcher32 => fletcher32Update a0 a1 b
  | .adler32 => adler32Update a0 a1 b
  | .crc32a => crc32aUpdate a0 a1 b
  | .crc32b => crc32bUpdate a0 a1 b

/-- `final(a, a0, a1, n)` = (res, new ACC0) (the table of R75). -/
def finalState (c : Config) (a : Alg) (a0 a1 : Word) (n : Nat) : Word × Word :=
  match a with
  | .sum8 => sum8Final a0
  | .sum16 => sum16Final a0
  | .sum32 => sum32Final a0
  | .xor8 => xor8Final a0
  | .bsdsum => bsdsumFinal a0
  | .sysv => sysvFinal a0
  | .fletcher16 => fletcher16Final a0 a1
  | .fletcher32 => fletcher32Final a0 a1
  | .adler32 => adler32Final a0 a1
  | .crc32a => crc32aFinal c.lenOrder a0 n
  | .crc32b => crc32bFinal a0

/-- What ABSORB writes to (ACC0, ACC1) under the register ALG. For NONE the spec states no value of ACC0: a free one; ACC1
is written under three algorithms only (R20, R22, log 6). -/
def updateSelected (c : Config) (alg : Option Alg) (a0 a1 : Word) (b : Byte) : Word × Word :=
  match alg with
  | some a => updateState c a a0 a1 b
  | none => (Config.freeUpdate c a0 a1 b, a1)

/-- What FINAL writes to (RESULT, ACC0) under the register ALG. For NONE the spec states no checksum: a free one; ACC0 is
written under CRC32A only (R20, R21, log 6). -/
def finalSelected (c : Config) (alg : Option Alg) (a0 a1 : Word) (n : Nat) : Word × Word :=
  match alg with
  | some a => finalState c a a0 a1 n
  | none => (Config.freeFinal c a0 a1 n, a0)

end Sys2Proof.Machine
end

