-- ==== Sys2Proof/Machine/Commands.lean ====
section
/-! DEFINITION. The meanings of the five commands (R71 to R75), each with its admission check (R70). -/

namespace Sys2Proof.Machine

/-- NOP (R71): every state element keeps its value. -/
def execNop (s : State) : Host.Outcome State Fault Refusal := .next s

/-- SELECT a (R72): a reserved code is cause 3 (R57, log 10), an open message cause 4; otherwise ALG <- a, VALID <- 0. -/
def execSelect (a : BitVec 4) (s : State) : Host.Outcome State Fault Refusal :=
  match Alg.ofCode? a with
  | none => .next (raiseProtocolError .reservedAlgorithm s)
  | some alg => admitUnless s.busy .selectWhileBusy s (selectAlgorithm alg s)

/-- START (R73): no selected algorithm is cause 5; otherwise the initial state is loaded and a message is open, whether or
not one was open before. -/
def execStart (s : State) : Host.Outcome State Fault Refusal :=
  match s.alg with
  | none => .next (raiseProtocolError .startNoAlgorithm s)
  | some alg => .next (openMessage (initState alg) s)

/-- ABSORB b (R74): no open message is cause 6; otherwise one byte is taken in and LEN counts it. -/
def execAbsorb (b : Byte) (s : State) : Host.Outcome State Fault Refusal :=
  admitUnless (!s.busy) .absorbWhileIdle s
    (absorbInto (updateSelected s.config s.alg s.acc0 s.acc1 b) s)

/-- FINAL (R75): no open message is cause 7; otherwise the checksum is published and the message closed. -/
def execFinal (s : State) : Host.Outcome State Fault Refusal :=
  admitUnless (!s.busy) .finalWhileIdle s
    (closeMessage (finalSelected s.config s.alg s.acc0 s.acc1 s.len) s)

end Sys2Proof.Machine
end

