-- ==== Sys2Proof/Machine/Accept.lean ====
section
/-! DEFINITION. Accepting one input: a command word by the step of R70, or the reset event of R170. -/

namespace Sys2Proof.Machine

/-- The step for one accepted command word (R70): decode, then raise the decoder's cause or run the command. -/
def acceptWord (w : CommandWord) (s : State) : Host.Outcome State Fault Refusal :=
  match decode w with
  | .illegal c => .next (raiseProtocolError c s)
  | .legal i => exec i s

/-- The step for one input of the host (R146). -/
def acceptInput (x : HostInput) (s : State) : Host.Outcome State Fault Refusal :=
  match x with
  | .command w => acceptWord w s
  | .reset => .next (resetEvent s)

/-- The host presents one more command, ahead of what it would have presented (log 1, log 3). -/
def presentFirst (w : CommandWord) (s : State) : State := { s with inputs := .command w :: s.inputs }

end Sys2Proof.Machine
end

