-- ==== Sys2Proof/Machine/Step.lean ====
section
/-! DEFINITION. One step of the machine: the next input of the host is accepted; with no input nothing changes (R159). -/

namespace Sys2Proof.Machine

/-- One step (R2, R46, R70): take the next input and accept it. With nothing presented the state does not change (R159,
log 8). -/
def step (s : State) : Host.Outcome State Fault Refusal :=
  match takeInput s with
  | none => .next s
  | some (x, t) => acceptInput x t

/-- The state in which the very next step runs the command whose table word is `w` (log 1, log 3). -/
def State.withFetchWord (s : State) (nbits w : Nat) : State := presentFirst (tableWord nbits w) s

end Sys2Proof.Machine
end

