-- ==== Sys2Proof/Machine/Blocks.lean ====
section
/-! DEFINITION. Several block instances side by side (R161): the list of their states, each with its own nine elements,
nothing shared. -/

namespace Sys2Proof.Machine

/-- Block `k` accepts one input; the others keep their states. An input to a block that does not exist reaches nobody. -/
def acceptAt (k : Nat) (x : HostInput) (blocks : List State) : Host.Outcome (List State) Fault Refusal :=
  match blocks[k]? with
  | none => .next blocks
  | some s =>
    match acceptInput x s with
    | .next t => .next (blocks.set k t)
    | .fault r => .fault r
    | .refused r => .refused r

end Sys2Proof.Machine
end

