-- ==== Sys2Proof/Machine/HostContract.lean ====
section
/-! DEFINITION. The host's side of the contract: `compute` as a fold (R140), the command sequences that realise it (R61,
R140), well-formed sequences (R62), the widths of results (R26) and the hexadecimal rendering (R143). None of it is state
of the block. -/

namespace Sys2Proof.Machine

/-- A message (R41). -/
abbrev Message := List Byte

/-- The working state (ACC0, ACC1) after the bytes of `m`: a left fold of `update` from `init` (R82, R140). -/
def workingState (c : Config) (a : Alg) (m : Message) : Word × Word :=
  m.foldl (fun p b => updateState c a p.1 p.2 b) (initState a)

/-- What FINAL gives after the bytes of `m`: (RESULT, ACC0) (R140). -/
def closingState (c : Config) (a : Alg) (m : Message) : Word × Word :=
  finalState c a (workingState c a m).1 (workingState c a m).2 (m.length % 2 ^ c.lenW)

/-- `compute_A(m)` (R140). -/
def compute (c : Config) (a : Alg) (m : Message) : Word := (closingState c a m).1

/-- The bytes of a text whose characters are all ASCII, one byte each, nothing added (R141); none for any other text, whose
bytes are the host's to choose (93_implementation_defined.md U5, log 9). -/
def asciiBytes : List Char → Option Message
  | [] => some []
  | c :: cs => if c.toNat < 128 then (asciiBytes cs).map (BitVec.ofNat 8 c.toNat :: ·) else none

/-- `compute(text)` (R141): the text's bytes, then `compute(bytes)`. -/
def computeText (c : Config) (a : Alg) (text : List Char) : Option Word := (asciiBytes text).map (compute c a)

/-- `getGeneratorPolynomial()` of a CRC variant (R142); the nine running sums do not have the operation. -/
def generatorPolynomial : Alg → Option Word
  | .crc32a => some polyA
  | .crc32b => some polyB
  | _ => none

/-- The pseudo-instruction MESSAGE (R61). -/
def messageCommands (m : Message) : List Instr := .start :: (m.map .absorb ++ [.final])

/-- The pseudo-instruction COMPUTE (R61). -/
def computeCommands (a : Alg) (m : Message) : List Instr := .select a.code :: messageCommands m

/-- The pseudo-instruction COMPUTE.S (R61): no terminator byte is added. -/
def computeTextCommands (a : Alg) (text : List Char) : Option (List Instr) := (asciiBytes text).map (computeCommands a)

/-- The pseudo-instruction GETPOLY (R61): the host then reads the POLY port. -/
def getPolyCommands (a : Alg) : List Instr := [.select a.code]

/-- The inputs that present a list of commands (R46). -/
def presented (is : List Instr) : List HostInput := is.map fun i => .command (encode i)

/-- Whether a command sequence is well formed (the grammar of R62), read from left to right: `selected` says whether an
algorithm has been selected before, `opened` whether a message is open. -/
def wellFormedSequence : (selected opened : Bool) → List Instr → Bool
  | _, opened, [] => !opened
  | selected, opened, .nop :: is => wellFormedSequence selected opened is
  | _, opened, .select a :: is => !opened && (Instr.select a).wellFormed && wellFormedSequence true false is
  | selected, opened, .start :: is => selected && !opened && wellFormedSequence selected true is
  | selected, opened, .absorb _ :: is => opened && wellFormedSequence selected true is
  | selected, opened, .final :: is => opened && wellFormedSequence selected false is

/-- The width in bits of an algorithm's checksum (R26). -/
def algWidth : Alg → Nat
  | .sum8 => 8
  | .sum16 => 16
  | .sum32 => 32
  | .xor8 => 8
  | .bsdsum => 16
  | .sysv => 32
  | .fletcher16 => 16
  | .fletcher32 => 32
  | .adler32 => 32
  | .crc32a => 32
  | .crc32b => 32

/-- One lowercase hexadecimal digit (R143). -/
def hexDigit (d : Nat) : Char := if d < 10 then Char.ofNat (48 + d) else Char.ofNat (87 + d)

/-- The hexadecimal digits of `v`, most significant first, in front of `tail`; none for 0. `fuel = v` is enough. -/
def hexDigits : Nat → Nat → List Char → List Char
  | 0, _, tail => tail
  | fuel + 1, v, tail => if v = 0 then tail else hexDigits fuel (v / 16) (hexDigit (v % 16) :: tail)

/-- `toHex` of a checksum (R143): no leading zero, no prefix, "0" for 0. -/
def toHex (v : Nat) : List Char := if v = 0 then [Char.ofNat 48] else hexDigits v v []

/-- `toHex(bytes)` (R143, 90_conflicts.md C6): the rendering of the input's checksum. -/
def hexOfMessage (c : Config) (a : Alg) (m : Message) : List Char := toHex (compute c a m).toNat

/-- `toHex(text)` (R143, R141). -/
def hexOfText (c : Config) (a : Alg) (text : List Char) : Option (List Char) := (asciiBytes text).map (hexOfMessage c a)

end Sys2Proof.Machine
end

