-- ==== Sys2Proof/Safety.lean ====
section
/-! DEFINITION. What claims are stated in: runs over a list of inputs, the invariant of R39, and the message history that
R24 and R30 speak of. -/

namespace Sys2Proof.Safety

open Sys2Proof.Machine

/-- The state of a next outcome, for tests that compare one step's result. -/
def nextState? (o : Host.Outcome State Fault Refusal) : Option State :=
  match o with
  | .next t => some t
  | .fault _ => none
  | .refused _ => none

/-- A run: the host presents exactly `xs`, and the machine steps once for each (R46). -/
def runInputs (xs : List HostInput) (s : State) : Host.Outcome State Fault Refusal :=
  Sys2Proof.core.run xs.length { s with inputs := xs }

/-- A run over commands of the block. -/
def runCommands (is : List Instr) (s : State) : Host.Outcome State Fault Refusal := runInputs (presented is) s

/-- The bounds of R23 on the working registers under an algorithm, with parameters `c`. -/
def inBounds (c : Config) (a : Alg) (a0 a1 : Word) : Prop :=
  match a with
  | .sum8 => a0.toNat < 2 ^ 8 ∧ a1 = 0
  | .sum16 => a0.toNat < 2 ^ 16 ∧ a1 = 0
  | .sum32 => a0.toNat < 2 ^ c.sum32W.bits ∧ a1 = 0
  | .xor8 => a0.toNat < 2 ^ 8 ∧ a1 = 0
  | .bsdsum => a0.toNat < 2 ^ 16 ∧ a1 = 0
  | .sysv => a1 = 0
  | .fletcher16 => a0.toNat < 255 ∧ a1.toNat < 255
  | .fletcher32 => a0.toNat < 65535 ∧ a1.toNat < 65535
  | .adler32 => a0.toNat < 65521 ∧ a1.toNat < 65521
  | .crc32a => a1 = 0
  | .crc32b => a1 = 0

/-- The invariant of every reachable state: R39 (b) to (e), LEN within its counter (R24), and a valid RESULT within the
width of its algorithm (R110). Clause (a) of R39 holds by the type of `State.alg` (log 5). -/
structure Inv (s : State) : Prop where
  busy_selected : s.busy = true → s.alg ≠ none ∧ s.valid = false
  valid_idle : s.valid = true → s.busy = false
  cause_iff_err : s.cause = none ↔ s.err = false
  busy_bounds : ∀ a, s.busy = true → s.alg = some a → inBounds s.config a s.acc0 s.acc1
  len_bound : s.len < 2 ^ s.config.lenW
  valid_width : s.valid = true → ∃ a, s.alg = some a ∧ s.result.toNat < 2 ^ algWidth a

/-- What a host that keeps records knows of the message traffic: the bytes accepted since the last START while the message
is open, and the message of the last FINAL while its result is flagged valid. -/
structure History where
  opened : Option Message
  closed : Option Message
  deriving DecidableEq, Repr

/-- No message open, none closed: the history after reset. -/
def History.empty : History := { opened := none, closed := none }

/-- How one input changes the history, seen from the words presented and the algorithm selected alone (R70 to R75, R170). -/
def History.next (x : HostInput) (alg : Option Alg) (h : History) : History :=
  match x with
  | .reset => .empty
  | .command w =>
    match decode w with
    | .illegal _ => h
    | .legal .nop => h
    | .legal (.select _) => if h.opened.isSome then h else { h with closed := none }
    | .legal .start => if alg.isSome then { opened := some [], closed := none } else h
    | .legal (.absorb b) =>
      match h.opened with
      | none => h
      | some m => { h with opened := some (m ++ [b]) }
    | .legal .final =>
      match h.opened with
      | none => h
      | some m => { opened := none, closed := some m }

/-- The block agrees with a history: an open message's working registers and length are those of its bytes (R24, R82),
and a valid RESULT is the checksum of the closed message under the algorithm in ALG (R30). -/
structure Agrees (s : State) (h : History) : Prop where
  busy_iff : s.busy = true ↔ h.opened.isSome = true
  valid_iff : s.valid = true ↔ h.closed.isSome = true
  opened_state : ∀ m, h.opened = some m → h.closed = none ∧ ∃ a, s.alg = some a ∧
    (s.acc0, s.acc1) = workingState s.config a m ∧ s.len = m.length % 2 ^ s.config.lenW
  closed_result : ∀ m, h.closed = some m → ∃ a, s.alg = some a ∧ s.result = compute s.config a m

end Sys2Proof.Safety
end

