-- ==== Sys2Proof/Certificates/Slice0/Obligations.lean ====
section
/-! DEFINITION. The statements about the model, for the provers. Each docstring names the rule of spec/ it states. -/

open Sys2Proof Sys2Proof.Machine Sys2Proof.Safety

/-! ## The command word -/

/-- R59, R52: the word of a well-formed command decodes to that command, with every operand. -/
def Obligations.DecodeInvertsEncode : Prop :=
  ∀ i : Instr, WellFormed i → decode (encode i) = .legal i

/-- R58: a word that decodes to a command is exactly that command's one word, and the command is well formed. -/
def Obligations.DecodedWordIsItsEncoding : Prop :=
  ∀ (w : CommandWord) (i : Instr), decode w = .legal i → WellFormed i ∧ encode i = w

/-- R52: match and mask of the five rows, the codes SELECT admits, the reserved opcodes, and the count of legal words. -/
def Obligations.OpcodeMapSelectsCommands : Prop :=
  (∀ w : CommandWord,
    (decode w = .legal .nop ↔ w &&& 0xFFFF = 0x0000) ∧
    (∀ a, decode w = .legal (.select a) ↔ w &&& 0xF0FF = 0x1000 ∧ algField w = a ∧ a.toNat ≤ 0xA) ∧
    (decode w = .legal .start ↔ w &&& 0xFFFF = 0x2000) ∧
    (∀ b, decode w = .legal (.absorb b) ↔ w &&& 0xFF00 = 0x3000 ∧ dataField w = b) ∧
    (decode w = .legal .final ↔ w &&& 0xFFFF = 0x4000) ∧
    (0x5 ≤ (opField w).toNat → decode w = .illegal .reservedOpcode)) ∧
  ∃ ws : List CommandWord, ws.Nodup ∧ ws.length = 270 ∧ ∀ w, w ∈ ws ↔ ∃ i, decode w = .legal i

/-- R55, R56, R57: exactly which words are refused by the decoder, and with which cause, in numbers. -/
def Obligations.DecoderRefusals : Prop :=
  ∀ w : CommandWord,
    let op := w.toNat / 4096
    let alg := w.toNat / 256 % 16
    let data := w.toNat % 256
    (decode w = .illegal .reservedOpcode ↔ 0x5 ≤ op) ∧
    (decode w = .illegal .nonZeroField ↔
      ((op = 0 ∨ op = 2 ∨ op = 4) ∧ (alg ≠ 0 ∨ data ≠ 0)) ∨ (op = 1 ∧ data ≠ 0) ∨ (op = 3 ∧ alg ≠ 0)) ∧
    (decode w = .illegal .reservedAlgorithm ↔ op = 1 ∧ data = 0 ∧ 0xB ≤ alg) ∧
    (∀ c, decode w = .illegal c → c = .reservedOpcode ∨ c = .nonZeroField ∨ c = .reservedAlgorithm)

/-- R53: the eleven SELECT words, each with the value it gives ALG. -/
def Obligations.SelectWordsNameTheAlgorithms : Prop :=
  (∀ p ∈ [((0x1000 : CommandWord), (0x0 : BitVec 4), Alg.sum8), (0x1100, 0x1, .sum16), (0x1200, 0x2, .sum32),
      (0x1300, 0x3, .xor8), (0x1400, 0x4, .bsdsum), (0x1500, 0x5, .sysv), (0x1600, 0x6, .fletcher16),
      (0x1700, 0x7, .fletcher32), (0x1800, 0x8, .adler32), (0x1900, 0x9, .crc32a), (0x1A00, 0xA, .crc32b)],
    decode p.1 = .legal (.select p.2.1) ∧ Alg.ofCode? p.2.1 = some p.2.2 ∧ algCode (some p.2.2) = p.2.1) ∧
  decode 0x0000 = .legal .nop ∧ decode 0x2000 = .legal .start ∧ decode 0x3061 = .legal (.absorb 0x61) ∧
  decode 0x4000 = .legal .final

/-! ## The step, inputs and reset -/

/-- R70, R46: when the word presented decodes to a command, the step is that command's meaning, at the state from which the
input has been taken. -/
def Obligations.StepRunsDecodedCommand : Prop :=
  ∀ (s : State) (w : CommandWord) (rest : List HostInput) (i : Instr),
    s.inputs = .command w :: rest → decode w = .legal i → step s = exec i { s with inputs := rest }

/-- R70: the four admission checks and the decoder's causes; a command that passes is executed; every word in every state
has a next state. -/
def Obligations.AdmissionChecks : Prop :=
  ∀ (w : CommandWord) (s : State),
    (∀ c, decode w = .illegal c → acceptWord w s = .next (raiseProtocolError c s)) ∧
    (∀ a, decode w = .legal (.select a) → s.busy = true →
      acceptWord w s = .next (raiseProtocolError .selectWhileBusy s)) ∧
    (decode w = .legal .start → s.alg = none → acceptWord w s = .next (raiseProtocolError .startNoAlgorithm s)) ∧
    (∀ b, decode w = .legal (.absorb b) → s.busy = false →
      acceptWord w s = .next (raiseProtocolError .absorbWhileIdle s)) ∧
    (decode w = .legal .final → s.busy = false → acceptWord w s = .next (raiseProtocolError .finalWhileIdle s)) ∧
    (∀ i, decode w = .legal i → acceptWord w s = exec i s) ∧
    (∃ t, acceptWord w s = .next t)

/-- R154: raising an error sets ERR, records the cause only if there was none, and writes nothing else; STATUS shows both. -/
def Obligations.RaiseRecordsFirstCause : Prop :=
  ∀ (c : ProtocolError) (s : State),
    (s.err = false → raiseProtocolError c s = { s with err := true, cause := some c }) ∧
    (s.err = true → raiseProtocolError c s = s) ∧
    (statusPort (raiseProtocolError c s)).getLsbD 2 = true ∧
    (s.err = false → (statusPort (raiseProtocolError c s)).extractLsb' 3 3 = c.code)

/-- R159: with no command and no reset the state does not change, however long one waits. -/
def Obligations.NothingHappensWithoutInput : Prop :=
  ∀ (n : Nat) (s : State), s.inputs = [] → Sys2Proof.core.run n s = .next s

/-- R46: a run is a left fold of the step over the inputs: it always ends in a next state with every input taken, and a
longer run continues a shorter one. -/
def Obligations.RunsAreFoldsOfTheStep : Prop :=
  (∀ (xs : List HostInput) (s : State), ∃ t, runInputs xs s = .next t ∧ t.inputs = [] ∧ t.config = s.config) ∧
  (∀ (xs ys : List HostInput) (s t : State), runInputs xs s = .next t → runInputs (xs ++ ys) s = runInputs ys t)

/-- R37: every state element and every port right after reset. -/
def Obligations.ResetStateElements : Prop :=
  let s := State.reset
  s.acc0 = 0x00000000 ∧ s.acc1 = 0x00000000 ∧ s.len = 0 ∧ algCode s.alg = 0xF ∧ s.result = 0x00000000 ∧
  s.busy = false ∧ s.valid = false ∧ s.err = false ∧ causeCode s.cause = 0 ∧
  resultPort s = 0x00000000 ∧ statusPort s = 0b000000 ∧ polyPort s = 0x00000000

/-- R170: the reset event sets every element from every state, and no command clears ERR or CAUSE or returns ALG to NONE. -/
def Obligations.ResetEventAndOnlyReset : Prop :=
  (∀ (s : State) (rest : List HostInput), s.inputs = .reset :: rest →
    step s = .next { acc0 := 0, acc1 := 0, len := 0, alg := none, result := 0, busy := false, valid := false,
                     err := false, cause := none, config := s.config, inputs := rest }) ∧
  (∀ (w : CommandWord) (s t : State), acceptWord w s = .next t →
    (s.err = true → t.err = true ∧ t.cause = s.cause) ∧ (s.alg ≠ none → t.alg ≠ none))

/-! ## The five commands -/

/-- R71: NOP completes in every state and changes nothing; only the word 0x0000 is NOP. -/
def Obligations.NopCompletesUnchanged : Prop :=
  (∀ s : State, exec .nop s = .next s) ∧ encode .nop = 0x0000 ∧
  (∀ (w : CommandWord) (s : State), (opField w).toNat = 0 → w ≠ 0x0000 →
    acceptWord w s = .next (raiseProtocolError .nonZeroField s))

/-- R72: SELECT a completes while idle, writing ALG and VALID only; its errors are causes 2, 3 and 4. -/
def Obligations.SelectCompletesWhileIdle : Prop :=
  (∀ (a : BitVec 4) (s : State), a.toNat ≤ 0xA → s.busy = false →
    ∃ alg, alg.code = a ∧ exec (.select a) s = .next { s with alg := some alg, valid := false }) ∧
  (∀ (a : BitVec 4) (s : State), a.toNat ≤ 0xA → s.busy = true →
    exec (.select a) s = .next (raiseProtocolError .selectWhileBusy s)) ∧
  (∀ (a : BitVec 4) (s : State), 0xB ≤ a.toNat →
    acceptWord (encode (.select a)) s = .next (raiseProtocolError .reservedAlgorithm s)) ∧
  (∀ (w : CommandWord) (s : State), (opField w).toNat = 1 → dataField w ≠ 0 →
    acceptWord w s = .next (raiseProtocolError .nonZeroField s))

/-- R73 with the inits of R83, R86, R89, R92, R95, R98, R101, R104, R107, R124, R129: START completes whenever an algorithm
is selected, open message or not; its errors are causes 2 and 5. -/
def Obligations.StartLoadsInitialState : Prop :=
  (∀ (a : Alg) (s : State), s.alg = some a →
    exec .start s = .next { s with
      acc0 := (match a with
        | .sum8 | .sum16 | .sum32 | .xor8 | .bsdsum | .sysv | .fletcher16 | .fletcher32 => 0
        | .adler32 => 1
        | .crc32a => 0x00000000
        | .crc32b => 0xFFFFFFFF)
      acc1 := 0, len := 0, busy := true, valid := false }) ∧
  (∀ s : State, s.alg = none → exec .start s = .next (raiseProtocolError .startNoAlgorithm s)) ∧
  (∀ (w : CommandWord) (s : State), (opField w).toNat = 2 → w ≠ 0x2000 →
    acceptWord w s = .next (raiseProtocolError .nonZeroField s))

/-- R74: ABSORB completes in every open message, counts the byte, applies `update`, and writes nothing but ACC0, ACC1, LEN;
ACC1 under the two-register sums only. -/
def Obligations.AbsorbCompletesInOpenMessage : Prop :=
  (∀ (b : Byte) (s : State), s.busy = true →
    ∃ t, exec (.absorb b) s = .next t ∧ t.len = (s.len + 1) % 2 ^ s.config.lenW ∧
      t.alg = s.alg ∧ t.result = s.result ∧ t.busy = s.busy ∧ t.valid = s.valid ∧ t.err = s.err ∧
      t.cause = s.cause ∧ t.config = s.config ∧ t.inputs = s.inputs ∧
      (∀ a, s.alg = some a → (t.acc0, t.acc1) = updateState s.config a s.acc0 s.acc1 b) ∧
      (s.alg ≠ some .fletcher16 → s.alg ≠ some .fletcher32 → s.alg ≠ some .adler32 → t.acc1 = s.acc1)) ∧
  (∀ (b : Byte) (s : State), s.busy = false → exec (.absorb b) s = .next (raiseProtocolError .absorbWhileIdle s)) ∧
  (∀ (w : CommandWord) (s : State), (opField w).toNat = 3 → algField w ≠ 0 →
    acceptWord w s = .next (raiseProtocolError .nonZeroField s))

/-- R75: FINAL completes in every open message, publishes `final`, closes the message, and writes nothing but RESULT, BUSY,
VALID and, under CRC32A, ACC0. -/
def Obligations.FinalPublishesAndCloses : Prop :=
  (∀ s : State, s.busy = true →
    ∃ t, exec .final s = .next t ∧ t.busy = false ∧ t.valid = true ∧
      t.acc1 = s.acc1 ∧ t.len = s.len ∧ t.alg = s.alg ∧ t.err = s.err ∧ t.cause = s.cause ∧
      t.config = s.config ∧ t.inputs = s.inputs ∧
      (∀ a, s.alg = some a → (t.result, t.acc0) = finalState s.config a s.acc0 s.acc1 s.len) ∧
      (s.alg ≠ some .crc32a → t.acc0 = s.acc0)) ∧
  (∀ s : State, s.busy = false → exec .final s = .next (raiseProtocolError .finalWhileIdle s)) ∧
  (∀ (w : CommandWord) (s : State), (opField w).toNat = 4 → w ≠ 0x4000 →
    acceptWord w s = .next (raiseProtocolError .nonZeroField s))

/-- R20, columns "written by": which commands can change which element; parameters and inputs to come never change. -/
def Obligations.ElementsWrittenOnlyByTheirCommands : Prop :=
  ∀ (i : Instr) (s t : State), exec i s = .next t →
    (t.acc0 ≠ s.acc0 → i = .start ∨ (∃ b, i = .absorb b) ∨ (i = .final ∧ s.alg = some .crc32a)) ∧
    (t.acc1 ≠ s.acc1 → i = .start ∨ ∃ b, i = .absorb b ∧
      (s.alg = some .fletcher16 ∨ s.alg = some .fletcher32 ∨ s.alg = some .adler32)) ∧
    (t.len ≠ s.len → i = .start ∨ ∃ b, i = .absorb b) ∧
    (t.alg ≠ s.alg → ∃ a, i = .select a) ∧
    (t.result ≠ s.result → i = .final) ∧
    (t.busy ≠ s.busy → i = .start ∨ i = .final) ∧
    (t.valid ≠ s.valid → (∃ a, i = .select a) ∨ i = .start ∨ i = .final) ∧
    (t.err ≠ s.err ∨ t.cause ≠ s.cause → s.err = false ∧ ∃ c, t = { s with err := true, cause := some c }) ∧
    t.config = s.config ∧ t.inputs = s.inputs

/-- R76: the phases UNSELECTED, IDLE and OPEN, as the pair (an algorithm is selected, BUSY), and the fifteen moves. -/
def Obligations.PhasesMoveAsTheTableSays : Prop :=
  ∀ s t : State,
    (s.alg = none → s.busy = false →
      (∀ a, exec (.select a) s = .next t → a.toNat ≤ 0xA → t.alg ≠ none ∧ t.busy = false) ∧
      (exec .start s = .next t → t = raiseProtocolError .startNoAlgorithm s) ∧
      (∀ b, exec (.absorb b) s = .next t → t = raiseProtocolError .absorbWhileIdle s) ∧
      (exec .final s = .next t → t = raiseProtocolError .finalWhileIdle s) ∧
      (exec .nop s = .next t → t = s)) ∧
    (s.alg ≠ none → s.busy = false →
      (∀ a, exec (.select a) s = .next t → a.toNat ≤ 0xA → algCode t.alg = a ∧ t.alg ≠ none ∧ t.busy = false) ∧
      (exec .start s = .next t → t.alg = s.alg ∧ t.busy = true) ∧
      (∀ b, exec (.absorb b) s = .next t → t = raiseProtocolError .absorbWhileIdle s) ∧
      (exec .final s = .next t → t = raiseProtocolError .finalWhileIdle s) ∧
      (exec .nop s = .next t → t = s)) ∧
    (s.alg ≠ none → s.busy = true →
      (∀ a, exec (.select a) s = .next t → a.toNat ≤ 0xA → t = raiseProtocolError .selectWhileBusy s) ∧
      (exec .start s = .next t → t.alg = s.alg ∧ t.busy = true) ∧
      (∀ b, exec (.absorb b) s = .next t → t.alg = s.alg ∧ t.busy = true) ∧
      (exec .final s = .next t → t.alg = s.alg ∧ t.busy = false) ∧
      (exec .nop s = .next t → t = s)) ∧
    (∀ c, (raiseProtocolError c s).alg = s.alg ∧ (raiseProtocolError c s).busy = s.busy)

/-! ## The running sums -/

/-- R84, R87: SUM8 and SUM16 add the byte and wrap, and over a whole message hold the byte sum reduced. -/
def Obligations.MaskedSumsWrap : Prop :=
  (∀ (b : Byte) (s : State), s.busy = true → s.alg = some .sum8 →
    exec (.absorb b) s = .next { s with acc0 := BitVec.ofNat 32 ((s.acc0.toNat + b.toNat) % 256)
                                        len := (s.len + 1) % 2 ^ s.config.lenW }) ∧
  (∀ (b : Byte) (s : State), s.busy = true → s.alg = some .sum16 →
    exec (.absorb b) s = .next { s with acc0 := BitVec.ofNat 32 ((s.acc0.toNat + b.toNat) % 65536)
                                        len := (s.len + 1) % 2 ^ s.config.lenW }) ∧
  (∀ (c : Config) (m : Message),
    (workingState c .sum8 m).1.toNat = (m.map BitVec.toNat).sum % 256 ∧
    (workingState c .sum16 m).1.toNat = (m.map BitVec.toNat).sum % 65536)

/-- R90: SUM32 adds the byte and keeps SUM32_W bits; the three widths agree on every byte sum below 65536, and 24 and 32 on
every byte sum below 2^24. -/
def Obligations.Sum32KeepsItsMaskWidth : Prop :=
  (∀ (b : Byte) (s : State), s.busy = true → s.alg = some .sum32 →
    exec (.absorb b) s = .next { s with
      acc0 := BitVec.ofNat 32 ((s.acc0.toNat + b.toNat) % 2 ^ (match s.config.sum32W with
        | .w16 => 16 | .w24 => 24 | .w32 => 32))
      len := (s.len + 1) % 2 ^ s.config.lenW }) ∧
  (∀ (c c' : Config) (m : Message), (m.map BitVec.toNat).sum < 65536 → compute c .sum32 m = compute c' .sum32 m) ∧
  (∀ (c c' : Config) (m : Message), c.sum32W = .w24 → c'.sum32W = .w32 → (m.map BitVec.toNat).sum < 2 ^ 24 →
    compute c .sum32 m = compute c' .sum32 m) ∧
  (∀ (c : Config) (m : Message), c.sum32W = .w16 → compute c .sum32 m = compute c .sum16 m)

/-- R93, R96: XOR8 and BSDSUM, the rotate before the add, in arithmetic of the halves. -/
def Obligations.XorAndRotateSums : Prop :=
  (∀ (b : Byte) (s : State), s.busy = true → s.alg = some .xor8 →
    exec (.absorb b) s = .next { s with acc0 := s.acc0 ^^^ b.zeroExtend 32
                                        len := (s.len + 1) % 2 ^ s.config.lenW }) ∧
  (∀ (b : Byte) (s : State), s.busy = true → s.alg = some .bsdsum → s.acc0.toNat < 2 ^ 16 →
    exec (.absorb b) s = .next { s with
      acc0 := BitVec.ofNat 32 ((s.acc0.toNat / 2 + s.acc0.toNat % 2 * 32768 + b.toNat) % 65536)
      len := (s.len + 1) % 2 ^ s.config.lenW })

/-- R99, R100: SYSV wraps its sum at 2^32, folds it twice at FINAL, fits 16 bits, and its checksum is that of the unbounded
sum for every message. -/
def Obligations.SysvFoldsTheUnboundedSum : Prop :=
  (∀ (b : Byte) (s : State), s.busy = true → s.alg = some .sysv →
    exec (.absorb b) s = .next { s with acc0 := BitVec.ofNat 32 ((s.acc0.toNat + b.toNat) % 2 ^ 32)
                                        len := (s.len + 1) % 2 ^ s.config.lenW }) ∧
  (∀ s : State, s.busy = true → s.alg = some .sysv →
    ∃ res : Word, res.toNat < 2 ^ 16 ∧
      (let r := s.acc0.toNat % 65536 + s.acc0.toNat / 65536
       res.toNat = r % 65536 + r / 65536) ∧
      exec .final s = .next { s with result := res, busy := false, valid := true }) ∧
  (∀ (c : Config) (m : Message),
    let total := (m.map BitVec.toNat).sum
    let r := total % 65536 + total / 65536 % 65536
    (compute c .sysv m).toNat = r % 65536 + r / 65536)

/-- R102, R105, R108: the two-register sums reduce after every byte, the second taking in the new first; and what they hold
after a whole message. -/
def Obligations.TwoRegisterSums : Prop :=
  ∀ p ∈ [(Alg.fletcher16, 255, 0), (Alg.fletcher32, 65535, 0), (Alg.adler32, 65521, 1)],
    (∀ (b : Byte) (s : State), s.busy = true → s.alg = some p.1 →
      exec (.absorb b) s = .next { s with
        acc0 := BitVec.ofNat 32 ((s.acc0.toNat + b.toNat) % p.2.1)
        acc1 := BitVec.ofNat 32 ((s.acc1.toNat + (s.acc0.toNat + b.toNat) % p.2.1) % p.2.1)
        len := (s.len + 1) % 2 ^ s.config.lenW }) ∧
    (∀ (c : Config) (m : Message),
      (workingState c p.1 m).1.toNat = (p.2.2 + (m.map BitVec.toNat).sum) % p.2.1 ∧
      (workingState c p.1 m).2.toNat =
        (p.2.2 * m.length + (m.zipIdx.map fun q => (m.length - q.2) * q.1.toNat).sum) % p.2.1)

/-- R103, R106, R109: within the bounds of R23, FINAL composes the two sums with s2 the more significant part. -/
def Obligations.TwoRegisterCompositions : Prop :=
  ∀ p ∈ [(Alg.fletcher16, 255, 256, 0xFEFE), (Alg.fletcher32, 65535, 65536, 0xFFFEFFFE),
      (Alg.adler32, 65521, 65536, 0xFFF0FFF0)],
    ∀ s : State, s.busy = true → s.alg = some p.1 → s.acc0.toNat < p.2.1 → s.acc1.toNat < p.2.1 →
      ∃ res : Word, res.toNat = s.acc1.toNat * p.2.2.1 + s.acc0.toNat ∧ res.toNat ≤ p.2.2.2 ∧
        exec .final s = .next { s with result := res, busy := false, valid := true }

/-- R85, R88, R91, R94, R97: the one-register sums publish ACC0 itself. -/
def Obligations.SingleSumsPublishTheAccumulator : Prop :=
  ∀ a ∈ [Alg.sum8, .sum16, .sum32, .xor8, .bsdsum], ∀ s : State, s.busy = true → s.alg = some a →
    exec .final s = .next { s with result := s.acc0, busy := false, valid := true }

/-! ## The CRC engine -/

/-- R122, R123: one division step in each direction, in numbers. -/
def Obligations.DivisionStepsInNumbers : Prop :=
  ∀ r : Word,
    (divstepMsb r).toNat = (if 2 ^ 31 ≤ r.toNat then (2 * r.toNat % 2 ^ 32) ^^^ 0x04C11DB7 else 2 * r.toNat) ∧
    (divstepLsb r).toNat = (if r.toNat % 2 = 1 then (r.toNat / 2) ^^^ 0xEDB88320 else r.toNat / 2)

/-- R125, R130: ABSORB under the CRC variants is eight division steps; the byte enters at the top or at the bottom, and a
byte equal to the register's own end only shifts. -/
def Obligations.CrcBytesAreEightDivisions : Prop :=
  (∀ (b : Byte) (s : State), s.busy = true → s.alg = some .crc32a →
    exec (.absorb b) s = .next { s with acc0 := divstepMsb^[8] (s.acc0 ^^^ (b ++ 0#24))
                                        len := (s.len + 1) % 2 ^ s.config.lenW }) ∧
  (∀ (b : Byte) (s : State), s.busy = true → s.alg = some .crc32b →
    exec (.absorb b) s = .next { s with acc0 := divstepLsb^[8] (s.acc0 ^^^ (0#24 ++ b))
                                        len := (s.len + 1) % 2 ^ s.config.lenW }) ∧
  (∀ r : Word, crcaByte r (r.extractLsb' 24 8) = r <<< 8 ∧ crcbByte r (r.extractLsb' 0 8) = r >>> 8)

/-- R126: the bit-serial form, bit 7 of the byte first, computes the same as `crca_byte`; and its mirror for `crcb_byte`. -/
def Obligations.BitSerialFormsAgree : Prop :=
  ∀ (r : Word) (b : Byte),
    crcaByte r b = [7, 6, 5, 4, 3, 2, 1, 0].foldl
      (fun (r : Word) k => if xor (r.getLsbD 31) (b.getLsbD k) then (r <<< 1) ^^^ 0x04C11DB7 else r <<< 1) r ∧
    crcbByte r b = [0, 1, 2, 3, 4, 5, 6, 7].foldl
      (fun (r : Word) k => if xor (r.getLsbD 0) (b.getLsbD k) then (r >>> 1) ^^^ 0xEDB88320 else r >>> 1) r

/-- R133 item 1: both engines are linear over XOR. -/
def Obligations.CrcBytesAreLinear : Prop :=
  ∀ (r s : Word) (b c : Byte),
    crcaByte (r ^^^ s) (b ^^^ c) = crcaByte r b ^^^ crcaByte s c ∧
    crcbByte (r ^^^ s) (b ^^^ c) = crcbByte r b ^^^ crcbByte s c

/-- R121, R133 item 2: the polynomials are each other's mirror images, and so are the two byte steps. -/
def Obligations.VariantsAreMirrorImages : Prop :=
  polyB = polyA.reverse ∧
  ∀ (r : Word) (b : Byte), (divstepMsb r).reverse = divstepLsb r.reverse ∧
    (crcaByte r b).reverse = crcbByte r.reverse b.reverse

/-- R133 item 4: no two registers are mapped together by a division step, nor by a byte. -/
def Obligations.CrcBytesAreBijections : Prop :=
  Function.Bijective divstepMsb ∧ Function.Bijective divstepLsb ∧
  ∀ b : Byte, Function.Bijective (fun r => crcaByte r b) ∧ Function.Bijective (fun r => crcbByte r b)

/-- R127: the length bytes are the base-256 digits, as many as the number needs, the last never 0; msb_first lists the same
digits the other way round. -/
def Obligations.LengthBytesAreBase256Digits : Prop :=
  lenBytes .lsbFirst 0 = [] ∧
  ∀ n : Nat,
    (0 < n → lenBytes .lsbFirst n = BitVec.ofNat 8 (n % 256) :: lenBytes .lsbFirst (n / 256)) ∧
    (lenBytes .lsbFirst n).foldr (fun b acc => b.toNat + 256 * acc) 0 = n ∧
    n < 256 ^ (lenBytes .lsbFirst n).length ∧
    (0 < n → 256 ^ ((lenBytes .lsbFirst n).length - 1) ≤ n ∧ (lenBytes .lsbFirst n).getLast? ≠ some 0) ∧
    lenBytes .msbFirst n = (lenBytes .lsbFirst n).reverse

/-- R128: FINAL under CRC32A drains the length bytes like data bytes, publishes the complement and keeps the drained register;
with length 0 nothing is drained. -/
def Obligations.Crc32aDrainsTheLength : Prop :=
  (∀ s : State, s.busy = true → s.alg = some .crc32a →
    exec .final s = .next { s with
      result := ~~~ ((lenBytes s.config.lenOrder s.len).foldl crcaByte s.acc0)
      acc0 := (lenBytes s.config.lenOrder s.len).foldl crcaByte s.acc0
      busy := false, valid := true }) ∧
  (∀ s : State, s.busy = true → s.alg = some .crc32a → s.len = 0 →
    exec .final s = .next { s with result := ~~~ s.acc0, busy := false, valid := true }) ∧
  (∀ (c : Config) (k : Nat), c.lenOrder = .lsbFirst →
    (finalState c .crc32a 0 0 (256 ^ k)).1 = 0xFB3EE248)

/-- R131: FINAL under CRC32B publishes the complement of ACC0, reads no length and changes no working register. -/
def Obligations.Crc32bComplementsTheRegister : Prop :=
  ∀ s : State, s.busy = true → s.alg = some .crc32b →
    exec .final s = .next { s with result := ~~~ s.acc0, busy := false, valid := true }

/-! ## Results -/

/-- R111, R132: the checksum of the empty message, through the machine: START and FINAL from any state with an algorithm
selected. -/
def Obligations.EmptyMessageIdentities : Prop :=
  ∀ (a : Alg) (s : State), s.alg = some a →
    ∃ t, runCommands [.start, .final] s = .next t ∧ t.valid = true ∧ t.alg = some a ∧
      t.result = (match a with
        | .adler32 => 0x00000001
        | .crc32a => 0xFFFFFFFF
        | .sum8 | .sum16 | .sum32 | .xor8 | .bsdsum | .sysv | .fletcher16 | .fletcher32 | .crc32b => 0x00000000)

/-- R110: every checksum fits its algorithm's width, and the tighter bounds. -/
def Obligations.ChecksumsFitTheirWidth : Prop :=
  ∀ (c : Config) (m : Message),
    (∀ a : Alg, (compute c a m).toNat < 2 ^ algWidth a) ∧
    (compute c .sum32 m).toNat < 2 ^ c.sum32W.bits ∧ (compute c .sysv m).toNat < 2 ^ 16 ∧
    (compute c .fletcher16 m).toNat ≤ 0xFEFE ∧ (compute c .fletcher32 m).toNat ≤ 0xFFFEFFFE ∧
    (compute c .adler32 m).toNat ≤ 0xFFF0FFF0

/-- R112: the initial states meet the bounds of R23 and every update keeps them. -/
def Obligations.UpdatesKeepTheBounds : Prop :=
  (∀ (c : Config) (a : Alg), inBounds c a (initState a).1 (initState a).2) ∧
  (∀ (c : Config) (a : Alg) (a0 a1 : Word) (b : Byte), inBounds c a a0 a1 →
    inBounds c a (updateState c a a0 a1 b).1 (updateState c a a0 a1 b).2)

/-- R175: reordering the bytes does not change the five order-independent sums; for each of the other six some reordering
does. -/
def Obligations.OrderMattersForSixAlgorithms : Prop :=
  (∀ a ∈ [Alg.sum8, .sum16, .sum32, .xor8, .sysv], ∀ (c : Config) (m m' : Message),
    m.Perm m' → compute c a m = compute c a m') ∧
  (∀ a ∈ [Alg.bsdsum, .fletcher16, .fletcher32, .adler32, .crc32a, .crc32b],
    ∃ m m' : Message, m.Perm m' ∧ compute defaultConfig a m ≠ compute defaultConfig a m')

/-- 93_implementation_defined.md U1 to U3, R176: which results depend on the open parameters: nine algorithms on none, CRC32A
only from 256 bytes on (or past the counter). -/
def Obligations.ParametersMatterOnlyWhereLeftOpen : Prop :=
  ∀ (c c' : Config) (m : Message),
    (∀ a : Alg, a ≠ .sum32 → a ≠ .crc32a → compute c a m = compute c' a m) ∧
    (m.length < 256 → m.length < 2 ^ c.lenW → m.length < 2 ^ c'.lenW →
      compute c .crc32a m = compute c' .crc32a m)

/-! ## Ports -/

/-- R28: STATUS packs BUSY, VALID, ERR and CAUSE at the weights 1, 2, 4 and 8. -/
def Obligations.StatusPacksTheFlags : Prop :=
  ∀ s : State, (statusPort s).toNat =
    s.busy.toNat + 2 * s.valid.toNat + 4 * s.err.toNat + 8 * (causeCode s.cause).toNat

/-- R33, R142: POLY is a function of ALG, and no command but SELECT changes it. -/
def Obligations.PolyFollowsAlg : Prop :=
  (∀ s : State,
    (algCode s.alg = 0x9 → polyPort s = 0x04C11DB7) ∧ (algCode s.alg = 0xA → polyPort s = 0xEDB88320) ∧
    (algCode s.alg ≠ 0x9 → algCode s.alg ≠ 0xA → polyPort s = 0x00000000)) ∧
  (∀ (i : Instr) (s t : State), exec i s = .next t → polyPort t ≠ polyPort s → ∃ a, i = .select a)

/-! ## Protocol errors -/

/-- R152, R153: with no error recorded before, a word records cause k exactly when row k of the table holds; no two rows
hold together. -/
def Obligations.CauseTable : Prop :=
  ∀ (w : CommandWord) (s t : State), s.err = false → s.cause = none → acceptWord w s = .next t →
    let op := w.toNat / 4096
    let alg := w.toNat / 256 % 16
    let data := w.toNat % 256
    (causeCode t.cause = 1 ↔ 0x5 ≤ op) ∧
    (causeCode t.cause = 2 ↔
      ((op = 0 ∨ op = 2 ∨ op = 4) ∧ (alg ≠ 0 ∨ data ≠ 0)) ∨ (op = 1 ∧ data ≠ 0) ∨ (op = 3 ∧ alg ≠ 0)) ∧
    (causeCode t.cause = 3 ↔ op = 1 ∧ data = 0 ∧ 0xB ≤ alg) ∧
    (causeCode t.cause = 4 ↔ op = 1 ∧ data = 0 ∧ alg ≤ 0xA ∧ s.busy = true) ∧
    (causeCode t.cause = 5 ↔ w = 0x2000 ∧ algCode s.alg = 0xF) ∧
    (causeCode t.cause = 6 ↔ op = 3 ∧ alg = 0 ∧ s.busy = false) ∧
    (causeCode t.cause = 7 ↔ w = 0x4000 ∧ s.busy = false) ∧
    (t.err = true ↔ causeCode t.cause ≠ 0)

/-- R31, R32: without a reset, once ERR is 1 it stays 1 and CAUSE keeps the first cause, whatever is presented. -/
def Obligations.FirstErrorIsSticky : Prop :=
  ∀ (xs : List HostInput) (s t : State), HostInput.reset ∉ xs → s.err = true → runInputs xs s = .next t →
    t.err = true ∧ t.cause = s.cause

/-- R155: ERR gates nothing: an input has the same effect on every other element whatever ERR and CAUSE hold. -/
def Obligations.ErrGatesNothing : Prop :=
  ∀ (x : HostInput) (s t : State) (e : Bool) (c : Option ProtocolError), acceptInput x s = .next t →
    ∃ u, acceptInput x { s with err := e, cause := c } = .next u ∧ { u with err := t.err, cause := t.cause } = t

/-! ## Whole-machine claims -/

/-- R39: reset, with any parameters, meets the invariant. -/
def Obligations.ResetMeetsTheInvariant : Prop := ∀ c : Config, Inv (State.resetWith c)

/-- R39: every step keeps the invariant, from every state that meets it, whatever input comes. -/
def Obligations.StepKeepsTheInvariant : Prop :=
  ∀ s t : State, Inv s → step s = .next t → Inv t

/-- R140, R145: from every state in which an algorithm is selected, START, the bytes and FINAL, with NOPs anywhere, leave
exactly the state R145 lists; ERR and CAUSE stay. -/
def Obligations.MessageComputesItsChecksum : Prop :=
  ∀ (a : Alg) (m : Message) (is : List Instr) (s : State), s.alg = some a →
    is.filter (fun i => decide (i ≠ .nop)) = messageCommands m →
    runCommands is s = .next
      { acc0 := (closingState s.config a m).2, acc1 := (workingState s.config a m).2
        len := m.length % 2 ^ s.config.lenW, alg := some a, result := compute s.config a m
        busy := false, valid := true, err := s.err, cause := s.cause, config := s.config, inputs := [] }

/-- R140: SELECT first, from every idle state: the RESULT port then shows `compute_A(m)` and VALID is 1, and ERR and CAUSE are
as they were. -/
def Obligations.ComputeFromAnyIdleState : Prop :=
  ∀ (a : Alg) (m : Message) (s : State), s.busy = false →
    ∃ t, runCommands (computeCommands a m) s = .next t ∧ resultPort t = compute s.config a m ∧ t.valid = true ∧
      t.busy = false ∧ t.alg = some a ∧ t.err = s.err ∧ t.cause = s.cause

/-- The start of the message history: reset agrees with the empty one. -/
def Obligations.ResetAgreesWithEmptyHistory : Prop := ∀ c : Config, Agrees (State.resetWith c) History.empty

/-- R24, R30: along every input, the open message's registers and LEN are those of its bytes, and while VALID = 1 RESULT is
the checksum, under the algorithm in ALG, of the message the last START-to-FINAL sequence delivered. -/
def Obligations.BlockAgreesWithMessageHistory : Prop :=
  ∀ (x : HostInput) (s t : State) (h : History), Agrees s h → acceptInput x s = .next t →
    Agrees t (h.next x s.alg)

/-- R62, R150: a well-formed sequence from an idle state never raises a protocol error: ERR and CAUSE end as they were, and
no message is left open. -/
def Obligations.WellFormedSequencesNeverFail : Prop :=
  ∀ (is : List Instr) (s t : State), s.busy = false → wellFormedSequence s.alg.isSome false is = true →
    runCommands is s = .next t → t.err = s.err ∧ t.cause = s.cause ∧ t.busy = false

/-- R161: inputs to different blocks commute. For `j` and `k` below the number of blocks this is the rule; that an input to a
block that does not exist changes nothing is the model's choice (DESIGN CHOICE, log 11). -/
def Obligations.InputsToDifferentBlocksCommute : Prop :=
  ∀ (j k : Nat) (x y : HostInput) (bs bs₁ bs₂ : List State), j ≠ k →
    acceptAt j x bs = .next bs₁ → acceptAt k y bs₁ = .next bs₂ →
    ∃ bs₃, acceptAt k y bs = .next bs₃ ∧ acceptAt j x bs₃ = .next bs₂

/-- R161: the blocks share no state: an input to block `k` is the step of that block, and every other block keeps its state. -/
def Obligations.InputReachesItsBlockAlone : Prop :=
  ∀ (k : Nat) (x : HostInput) (bs : List State) (s : State), bs[k]? = some s →
    ∃ t bs', acceptInput x s = .next t ∧ acceptAt k x bs = .next bs' ∧ bs'[k]? = some t ∧
      bs'.length = bs.length ∧ ∀ j, j ≠ k → bs'[j]? = bs[j]?

/-- R143: `toHex` writes the digits of the number, lowercase, with no leading zero. -/
def Obligations.HexRenderingIsExact : Prop :=
  toHex 0 = ['0'] ∧
  ∀ v : Nat, 0 < v →
    (toHex v).head? ≠ some '0' ∧
    (∀ ch ∈ toHex v, ('0' ≤ ch ∧ ch ≤ '9') ∨ ('a' ≤ ch ∧ ch ≤ 'f')) ∧
    (toHex v).length = Nat.log 16 v + 1 ∧
    (toHex v).foldl (fun acc ch => 16 * acc + (if ch ≤ '9' then ch.toNat - 48 else ch.toNat - 87)) 0 = v
end

