-- ==== Sys2Proof/Laws/Engine.lean ====
section
/-! SUPPORT. Small lemmas of the CRC engine's recursions. -/

namespace Sys2Proof.Machine

theorem repeatStep_eq_iterate (f : Word → Word) (n : Nat) (r : Word) : repeatStep f n r = f^[n] r := by
  induction n generalizing r with
  | zero => rfl
  | succ n ih => exact ih (f r)

@[simp] theorem digits256_zero (fuel : Nat) : digits256 fuel 0 = [] := by cases fuel <;> simp [digits256]

theorem digits256_pos {n : Nat} (fuel : Nat) (h : 0 < n) :
    digits256 (fuel + 1) n = BitVec.ofNat 8 (n &&& 0xFF) :: digits256 fuel (n >>> 8) := by
  simp [digits256, Nat.ne_of_gt h]

@[simp] theorem lenBytes_zero (o : LenOrder) : lenBytes o 0 = [] := by cases o <;> rfl

end Sys2Proof.Machine
end

