-- ==== Sys2Proof/Laws/State.lean ====
section
/-! SUPPORT. One lemma per field of State and per named update of it, each true by rfl, so that no proof unfolds a record
update. -/

namespace Sys2Proof.Machine

/-! Raising a protocol error writes ERR and CAUSE only (R154). -/

@[simp] theorem raiseProtocolError_acc0 (c : ProtocolError) (s : State) : (raiseProtocolError c s).acc0 = s.acc0 := rfl
@[simp] theorem raiseProtocolError_acc1 (c : ProtocolError) (s : State) : (raiseProtocolError c s).acc1 = s.acc1 := rfl
@[simp] theorem raiseProtocolError_len (c : ProtocolError) (s : State) : (raiseProtocolError c s).len = s.len := rfl
@[simp] theorem raiseProtocolError_alg (c : ProtocolError) (s : State) : (raiseProtocolError c s).alg = s.alg := rfl
@[simp] theorem raiseProtocolError_result (c : ProtocolError) (s : State) : (raiseProtocolError c s).result = s.result := rfl
@[simp] theorem raiseProtocolError_busy (c : ProtocolError) (s : State) : (raiseProtocolError c s).busy = s.busy := rfl
@[simp] theorem raiseProtocolError_valid (c : ProtocolError) (s : State) : (raiseProtocolError c s).valid = s.valid := rfl
@[simp] theorem raiseProtocolError_err (c : ProtocolError) (s : State) : (raiseProtocolError c s).err = true := rfl
@[simp] theorem raiseProtocolError_cause (c : ProtocolError) (s : State) : (raiseProtocolError c s).cause = if s.err then s.cause else some c := rfl
@[simp] theorem raiseProtocolError_config (c : ProtocolError) (s : State) : (raiseProtocolError c s).config = s.config := rfl
@[simp] theorem raiseProtocolError_inputs (c : ProtocolError) (s : State) : (raiseProtocolError c s).inputs = s.inputs := rfl

/-! The reset event (R170). -/

@[simp] theorem resetEvent_acc0 (s : State) : (resetEvent s).acc0 = 0 := rfl
@[simp] theorem resetEvent_acc1 (s : State) : (resetEvent s).acc1 = 0 := rfl
@[simp] theorem resetEvent_len (s : State) : (resetEvent s).len = 0 := rfl
@[simp] theorem resetEvent_alg (s : State) : (resetEvent s).alg = none := rfl
@[simp] theorem resetEvent_result (s : State) : (resetEvent s).result = 0 := rfl
@[simp] theorem resetEvent_busy (s : State) : (resetEvent s).busy = false := rfl
@[simp] theorem resetEvent_valid (s : State) : (resetEvent s).valid = false := rfl
@[simp] theorem resetEvent_err (s : State) : (resetEvent s).err = false := rfl
@[simp] theorem resetEvent_cause (s : State) : (resetEvent s).cause = none := rfl
@[simp] theorem resetEvent_config (s : State) : (resetEvent s).config = s.config := rfl
@[simp] theorem resetEvent_inputs (s : State) : (resetEvent s).inputs = s.inputs := rfl

/-! SELECT writes ALG and VALID only (R72). -/

@[simp] theorem selectAlgorithm_acc0 (a : Alg) (s : State) : (selectAlgorithm a s).acc0 = s.acc0 := rfl
@[simp] theorem selectAlgorithm_acc1 (a : Alg) (s : State) : (selectAlgorithm a s).acc1 = s.acc1 := rfl
@[simp] theorem selectAlgorithm_len (a : Alg) (s : State) : (selectAlgorithm a s).len = s.len := rfl
@[simp] theorem selectAlgorithm_alg (a : Alg) (s : State) : (selectAlgorithm a s).alg = some a := rfl
@[simp] theorem selectAlgorithm_result (a : Alg) (s : State) : (selectAlgorithm a s).result = s.result := rfl
@[simp] theorem selectAlgorithm_busy (a : Alg) (s : State) : (selectAlgorithm a s).busy = s.busy := rfl
@[simp] theorem selectAlgorithm_valid (a : Alg) (s : State) : (selectAlgorithm a s).valid = false := rfl
@[simp] theorem selectAlgorithm_err (a : Alg) (s : State) : (selectAlgorithm a s).err = s.err := rfl
@[simp] theorem selectAlgorithm_cause (a : Alg) (s : State) : (selectAlgorithm a s).cause = s.cause := rfl
@[simp] theorem selectAlgorithm_config (a : Alg) (s : State) : (selectAlgorithm a s).config = s.config := rfl
@[simp] theorem selectAlgorithm_inputs (a : Alg) (s : State) : (selectAlgorithm a s).inputs = s.inputs := rfl

/-! START writes ACC0, ACC1, LEN, BUSY and VALID only (R73). -/

@[simp] theorem openMessage_acc0 (p : Word × Word) (s : State) : (openMessage p s).acc0 = p.1 := rfl
@[simp] theorem openMessage_acc1 (p : Word × Word) (s : State) : (openMessage p s).acc1 = p.2 := rfl
@[simp] theorem openMessage_len (p : Word × Word) (s : State) : (openMessage p s).len = 0 := rfl
@[simp] theorem openMessage_alg (p : Word × Word) (s : State) : (openMessage p s).alg = s.alg := rfl
@[simp] theorem openMessage_result (p : Word × Word) (s : State) : (openMessage p s).result = s.result := rfl
@[simp] theorem openMessage_busy (p : Word × Word) (s : State) : (openMessage p s).busy = true := rfl
@[simp] theorem openMessage_valid (p : Word × Word) (s : State) : (openMessage p s).valid = false := rfl
@[simp] theorem openMessage_err (p : Word × Word) (s : State) : (openMessage p s).err = s.err := rfl
@[simp] theorem openMessage_cause (p : Word × Word) (s : State) : (openMessage p s).cause = s.cause := rfl
@[simp] theorem openMessage_config (p : Word × Word) (s : State) : (openMessage p s).config = s.config := rfl
@[simp] theorem openMessage_inputs (p : Word × Word) (s : State) : (openMessage p s).inputs = s.inputs := rfl

/-! ABSORB writes ACC0, ACC1 and LEN only (R74). -/

@[simp] theorem absorbInto_acc0 (p : Word × Word) (s : State) : (absorbInto p s).acc0 = p.1 := rfl
@[simp] theorem absorbInto_acc1 (p : Word × Word) (s : State) : (absorbInto p s).acc1 = p.2 := rfl
@[simp] theorem absorbInto_len (p : Word × Word) (s : State) : (absorbInto p s).len = (s.len + 1) % 2 ^ s.config.lenW := rfl
@[simp] theorem absorbInto_alg (p : Word × Word) (s : State) : (absorbInto p s).alg = s.alg := rfl
@[simp] theorem absorbInto_result (p : Word × Word) (s : State) : (absorbInto p s).result = s.result := rfl
@[simp] theorem absorbInto_busy (p : Word × Word) (s : State) : (absorbInto p s).busy = s.busy := rfl
@[simp] theorem absorbInto_valid (p : Word × Word) (s : State) : (absorbInto p s).valid = s.valid := rfl
@[simp] theorem absorbInto_err (p : Word × Word) (s : State) : (absorbInto p s).err = s.err := rfl
@[simp] theorem absorbInto_cause (p : Word × Word) (s : State) : (absorbInto p s).cause = s.cause := rfl
@[simp] theorem absorbInto_config (p : Word × Word) (s : State) : (absorbInto p s).config = s.config := rfl
@[simp] theorem absorbInto_inputs (p : Word × Word) (s : State) : (absorbInto p s).inputs = s.inputs := rfl

/-! FINAL writes RESULT, ACC0, BUSY and VALID only (R75). -/

@[simp] theorem closeMessage_acc0 (p : Word × Word) (s : State) : (closeMessage p s).acc0 = p.2 := rfl
@[simp] theorem closeMessage_acc1 (p : Word × Word) (s : State) : (closeMessage p s).acc1 = s.acc1 := rfl
@[simp] theorem closeMessage_len (p : Word × Word) (s : State) : (closeMessage p s).len = s.len := rfl
@[simp] theorem closeMessage_alg (p : Word × Word) (s : State) : (closeMessage p s).alg = s.alg := rfl
@[simp] theorem closeMessage_result (p : Word × Word) (s : State) : (closeMessage p s).result = p.1 := rfl
@[simp] theorem closeMessage_busy (p : Word × Word) (s : State) : (closeMessage p s).busy = false := rfl
@[simp] theorem closeMessage_valid (p : Word × Word) (s : State) : (closeMessage p s).valid = true := rfl
@[simp] theorem closeMessage_err (p : Word × Word) (s : State) : (closeMessage p s).err = s.err := rfl
@[simp] theorem closeMessage_cause (p : Word × Word) (s : State) : (closeMessage p s).cause = s.cause := rfl
@[simp] theorem closeMessage_config (p : Word × Word) (s : State) : (closeMessage p s).config = s.config := rfl
@[simp] theorem closeMessage_inputs (p : Word × Word) (s : State) : (closeMessage p s).inputs = s.inputs := rfl

/-! Presenting a command touches the inputs only. -/

@[simp] theorem presentFirst_acc0 (w : CommandWord) (s : State) : (presentFirst w s).acc0 = s.acc0 := rfl
@[simp] theorem presentFirst_acc1 (w : CommandWord) (s : State) : (presentFirst w s).acc1 = s.acc1 := rfl
@[simp] theorem presentFirst_len (w : CommandWord) (s : State) : (presentFirst w s).len = s.len := rfl
@[simp] theorem presentFirst_alg (w : CommandWord) (s : State) : (presentFirst w s).alg = s.alg := rfl
@[simp] theorem presentFirst_result (w : CommandWord) (s : State) : (presentFirst w s).result = s.result := rfl
@[simp] theorem presentFirst_busy (w : CommandWord) (s : State) : (presentFirst w s).busy = s.busy := rfl
@[simp] theorem presentFirst_valid (w : CommandWord) (s : State) : (presentFirst w s).valid = s.valid := rfl
@[simp] theorem presentFirst_err (w : CommandWord) (s : State) : (presentFirst w s).err = s.err := rfl
@[simp] theorem presentFirst_cause (w : CommandWord) (s : State) : (presentFirst w s).cause = s.cause := rfl
@[simp] theorem presentFirst_config (w : CommandWord) (s : State) : (presentFirst w s).config = s.config := rfl
@[simp] theorem presentFirst_inputs (w : CommandWord) (s : State) : (presentFirst w s).inputs = .command w :: s.inputs := rfl

@[simp] theorem resetWith_acc0 (c : Config) : (State.resetWith c).acc0 = 0 := rfl
@[simp] theorem resetWith_acc1 (c : Config) : (State.resetWith c).acc1 = 0 := rfl
@[simp] theorem resetWith_len (c : Config) : (State.resetWith c).len = 0 := rfl
@[simp] theorem resetWith_alg (c : Config) : (State.resetWith c).alg = none := rfl
@[simp] theorem resetWith_result (c : Config) : (State.resetWith c).result = 0 := rfl
@[simp] theorem resetWith_busy (c : Config) : (State.resetWith c).busy = false := rfl
@[simp] theorem resetWith_valid (c : Config) : (State.resetWith c).valid = false := rfl
@[simp] theorem resetWith_err (c : Config) : (State.resetWith c).err = false := rfl
@[simp] theorem resetWith_cause (c : Config) : (State.resetWith c).cause = none := rfl
@[simp] theorem resetWith_config (c : Config) : (State.resetWith c).config = c := rfl
@[simp] theorem resetWith_inputs (c : Config) : (State.resetWith c).inputs = [] := rfl

end Sys2Proof.Machine
end

