-- ==== Sys2Proof/Laws/Words.lean ====
section
/-! SUPPORT. Lemmas about the command word's fields, the codes, and the narrowing of numbers to registers. -/

namespace Sys2Proof

/-- A packed word as a number: the three fields at their weights (R51). -/
theorem packWord_toNat (op alg : BitVec 4) (data : Byte) :
    (packWord op alg data).toNat = op.toNat * 4096 + alg.toNat * 256 + data.toNat := by
  have := op.isLt; have := alg.isLt; have := data.isLt
  simp only [packWord, BitVec.toNat_append]
  rw [← Nat.shiftLeft_add_eq_or_of_lt (by omega), ← Nat.shiftLeft_add_eq_or_of_lt (by omega)]
  simp only [Nat.shiftLeft_eq]; omega

theorem opField_toNat (w : CommandWord) : (opField w).toNat = w.toNat / 4096 := by
  have := w.isLt
  simp only [opField, BitVec.extractLsb'_toNat, Nat.shiftRight_eq_div_pow]; omega

theorem algField_toNat (w : CommandWord) : (algField w).toNat = w.toNat / 256 % 16 := by
  simp only [algField, BitVec.extractLsb'_toNat, Nat.shiftRight_eq_div_pow]

theorem dataField_toNat (w : CommandWord) : (dataField w).toNat = w.toNat % 256 := by
  simp only [dataField, BitVec.extractLsb'_toNat, Nat.shiftRight_eq_div_pow]; omega

@[simp] theorem opField_packWord (op alg : BitVec 4) (data : Byte) : opField (packWord op alg data) = op := by
  have := op.isLt; have := alg.isLt; have := data.isLt
  apply BitVec.eq_of_toNat_eq; rw [opField_toNat, packWord_toNat]; omega

@[simp] theorem algField_packWord (op alg : BitVec 4) (data : Byte) : algField (packWord op alg data) = alg := by
  have := op.isLt; have := alg.isLt; have := data.isLt
  apply BitVec.eq_of_toNat_eq; rw [algField_toNat, packWord_toNat]; omega

@[simp] theorem dataField_packWord (op alg : BitVec 4) (data : Byte) : dataField (packWord op alg data) = data := by
  have := op.isLt; have := alg.isLt; have := data.isLt
  apply BitVec.eq_of_toNat_eq; rw [dataField_toNat, packWord_toNat]; omega

@[simp] theorem packWord_fields (w : CommandWord) : packWord (opField w) (algField w) (dataField w) = w := by
  apply BitVec.eq_of_toNat_eq
  rw [packWord_toNat, opField_toNat, algField_toNat, dataField_toNat]; omega

@[simp] theorem ofCode_code (a : Alg) : Alg.ofCode? a.code = some a := by cases a <;> rfl

/-- A code is an algorithm's exactly when it is at most 0xA (R57). -/
theorem ofCode_isSome (a : BitVec 4) : (Alg.ofCode? a).isSome = (Instr.select a).wellFormed := by
  revert a; decide

theorem code_of_ofCode {c : BitVec 4} {a : Alg} (h : Alg.ofCode? c = some a) : a.code = c := by
  revert c a; intro c a; cases a <;> (revert c; decide)

@[simp] theorem code_wellFormed (a : Alg) : (Instr.select a.code).wellFormed = true := by cases a <;> rfl

namespace Machine

theorem maskLow_eq_mod (k v : Nat) : maskLow k v = v % 2 ^ k := Nat.and_two_pow_sub_one_eq_mod v k

theorem narrow_toNat (n : Nat) (h : n < 2 ^ 32) : (narrow n).toNat = n := by
  rw [narrow, BitVec.toNat_ofNat, Nat.mod_eq_of_lt h]

theorem publish_fits (n : Nat) (h : n < 2 ^ 32) : publish n = narrow n := if_pos h

end Machine

end Sys2Proof
end

