-- ==== Sys2Proof/Laws/Exec.lean ====
section
/-! SUPPORT. What each shared operation and each command can do, said once: the equations of the admission check and of the
step, and one inversion lemma per command. -/

namespace Sys2Proof.Machine

@[simp] theorem admitUnless_true (c : ProtocolError) (s t : State) :
    admitUnless true c s t = .next (raiseProtocolError c s) := rfl

@[simp] theorem admitUnless_false (c : ProtocolError) (s t : State) : admitUnless false c s t = .next t := rfl

/-- Everything the admission check can answer. -/
theorem admitUnless_cases {p : Bool} {c : ProtocolError} {s t u : State} (h : admitUnless p c s t = .next u) :
    (p = true ∧ u = raiseProtocolError c s) ∨ (p = false ∧ u = t) := by
  cases p <;> simp_all

/-- Everything SELECT can do. -/
theorem execSelect_cases {a : BitVec 4} {s t : State} (h : execSelect a s = .next t) :
    (Alg.ofCode? a = none ∧ t = raiseProtocolError .reservedAlgorithm s) ∨
    (∃ alg, Alg.ofCode? a = some alg ∧ s.busy = true ∧ t = raiseProtocolError .selectWhileBusy s) ∨
    (∃ alg, Alg.ofCode? a = some alg ∧ s.busy = false ∧ t = selectAlgorithm alg s) := by
  unfold execSelect at h
  split at h
  · next h0 => exact .inl ⟨h0, by simpa using h.symm⟩
  · next alg h0 =>
    obtain ⟨hb, ht⟩ | ⟨hb, ht⟩ := admitUnless_cases h
    · exact .inr (.inl ⟨alg, h0, hb, ht⟩)
    · exact .inr (.inr ⟨alg, h0, hb, ht⟩)

/-- Everything START can do. -/
theorem execStart_cases {s t : State} (h : execStart s = .next t) :
    (s.alg = none ∧ t = raiseProtocolError .startNoAlgorithm s) ∨
    (∃ a, s.alg = some a ∧ t = openMessage (initState a) s) := by
  unfold execStart at h
  split at h
  · next h0 => exact .inl ⟨h0, by simpa using h.symm⟩
  · next a h0 => exact .inr ⟨a, h0, by simpa using h.symm⟩

/-- Everything ABSORB can do. -/
theorem execAbsorb_cases {b : Byte} {s t : State} (h : execAbsorb b s = .next t) :
    (s.busy = false ∧ t = raiseProtocolError .absorbWhileIdle s) ∨
    (s.busy = true ∧ t = absorbInto (updateSelected s.config s.alg s.acc0 s.acc1 b) s) := by
  obtain ⟨hb, ht⟩ | ⟨hb, ht⟩ := admitUnless_cases h
  · exact .inl ⟨by simpa using hb, ht⟩
  · exact .inr ⟨by simpa using hb, ht⟩

/-- Everything FINAL can do. -/
theorem execFinal_cases {s t : State} (h : execFinal s = .next t) :
    (s.busy = false ∧ t = raiseProtocolError .finalWhileIdle s) ∨
    (s.busy = true ∧ t = closeMessage (finalSelected s.config s.alg s.acc0 s.acc1 s.len) s) := by
  obtain ⟨hb, ht⟩ | ⟨hb, ht⟩ := admitUnless_cases h
  · exact .inl ⟨by simpa using hb, ht⟩
  · exact .inr ⟨by simpa using hb, ht⟩

/-- Everything a command can do: it is refused with one of the causes 3 to 7, or it has its effect. -/
theorem exec_cases {i : Instr} {s t : State} (h : exec i s = .next t) :
    (∃ c, t = raiseProtocolError c s) ∨
    (i = .nop ∧ t = s) ∨
    (∃ a alg, i = .select a ∧ Alg.ofCode? a = some alg ∧ s.busy = false ∧ t = selectAlgorithm alg s) ∨
    (∃ a, i = .start ∧ s.alg = some a ∧ t = openMessage (initState a) s) ∨
    (∃ b, i = .absorb b ∧ s.busy = true ∧ t = absorbInto (updateSelected s.config s.alg s.acc0 s.acc1 b) s) ∨
    (i = .final ∧ s.busy = true ∧ t = closeMessage (finalSelected s.config s.alg s.acc0 s.acc1 s.len) s) := by
  cases i with
  | nop => exact .inr (.inl ⟨rfl, by simpa [exec, execNop] using h.symm⟩)
  | select a =>
    obtain ⟨-, ht⟩ | ⟨_, -, -, ht⟩ | ⟨alg, ha, hb, ht⟩ := execSelect_cases h
    · exact .inl ⟨_, ht⟩
    · exact .inl ⟨_, ht⟩
    · exact .inr (.inr (.inl ⟨a, alg, rfl, ha, hb, ht⟩))
  | start =>
    obtain ⟨-, ht⟩ | ⟨a, ha, ht⟩ := execStart_cases h
    · exact .inl ⟨_, ht⟩
    · exact .inr (.inr (.inr (.inl ⟨a, rfl, ha, ht⟩)))
  | absorb b =>
    obtain ⟨-, ht⟩ | ⟨hb, ht⟩ := execAbsorb_cases h
    · exact .inl ⟨_, ht⟩
    · exact .inr (.inr (.inr (.inr (.inl ⟨b, rfl, hb, ht⟩))))
  | final =>
    obtain ⟨-, ht⟩ | ⟨hb, ht⟩ := execFinal_cases h
    · exact .inl ⟨_, ht⟩
    · exact .inr (.inr (.inr (.inr (.inr ⟨rfl, hb, ht⟩))))

theorem step_idle {s : State} (h : s.inputs = []) : step s = .next s := by simp [step, takeInput, h]

theorem step_input {s : State} {x : HostInput} {rest : List HostInput} (h : s.inputs = x :: rest) :
    step s = acceptInput x { s with inputs := rest } := by simp [step, takeInput, h]

theorem acceptWord_legal {w : CommandWord} {i : Instr} (s : State) (h : decode w = .legal i) :
    acceptWord w s = exec i s := by simp [acceptWord, h]

theorem acceptWord_illegal {w : CommandWord} {c : ProtocolError} (s : State) (h : decode w = .illegal c) :
    acceptWord w s = .next (raiseProtocolError c s) := by simp [acceptWord, h]

end Sys2Proof.Machine
end

