-- ==== Sys2Proof/Laws/PerInstr.lean ====
section
/-! SUPPORT. Statements made per command. Family MatchMask: the word of a well-formed command is selected by that command's
own match and mask in the opcode map (R52). -/

namespace Sys2Proof.Laws.MatchMask

/-- The word of the command, masked, is the command's match value. -/
def Statement (i : Instr) : Prop := WellFormed i → encode i &&& i.maskWord = i.matchWord

theorem nop : Statement .nop := fun _ => rfl

theorem select (a : BitVec 4) : Statement (.select a) := by
  intro _; revert a; decide

theorem start : Statement .start := fun _ => rfl

theorem absorb (b : Byte) : Statement (.absorb b) := by
  intro _; revert b; decide

theorem final : Statement .final := fun _ => rfl

end Sys2Proof.Laws.MatchMask
end

