-- ==== Sys2Proof/Laws/Run.lean ====
section
/-! SUPPORT. Runs: one step of the host's run function, and that a command does not look at the inputs still to come. -/

namespace Sys2Proof.Machine

theorem core_run_succ {n : Nat} {s t : State} (h : step s = .next t) :
    Sys2Proof.core.run (n + 1) s = Sys2Proof.core.run n t := by
  have h' : Sys2Proof.core.step s = .next t := h
  simp only [Host.Core.run, h']

/-- A command's effect does not depend on the inputs still to come. -/
theorem exec_withInputs {i : Instr} {s t : State} (xs : List HostInput) (h : exec i s = .next t) :
    exec i { s with inputs := xs } = .next { t with inputs := xs } := by
  cases i with
  | nop => cases h; rfl
  | select a =>
    obtain ⟨hn, rfl⟩ | ⟨alg, hn, hb, rfl⟩ | ⟨alg, hn, hb, rfl⟩ := execSelect_cases h
    · simp [exec, execSelect, hn, raiseProtocolError, recordError]
    · simp [exec, execSelect, hn, hb, raiseProtocolError, recordError]
    · simp [exec, execSelect, hn, hb, selectAlgorithm, clearValid]
  | start =>
    obtain ⟨hn, rfl⟩ | ⟨a, hn, rfl⟩ := execStart_cases h
    · simp [exec, execStart, hn, raiseProtocolError, recordError]
    · simp [exec, execStart, hn, openMessage, flagsOpen]
  | absorb b =>
    obtain ⟨hn, rfl⟩ | ⟨hn, rfl⟩ := execAbsorb_cases h
    · simp [exec, execAbsorb, hn, raiseProtocolError, recordError]
    · simp [exec, execAbsorb, hn, absorbInto]
  | final =>
    obtain ⟨hn, rfl⟩ | ⟨hn, rfl⟩ := execFinal_cases h
    · simp [exec, execFinal, hn, raiseProtocolError, recordError]
    · simp [exec, execFinal, hn, closeMessage, flagsClosed]

theorem acceptInput_withInputs {x : HostInput} {s t : State} (xs : List HostInput) (h : acceptInput x s = .next t) :
    acceptInput x { s with inputs := xs } = .next { t with inputs := xs } := by
  cases x with
  | reset => cases h; rfl
  | command w =>
    simp only [acceptInput, acceptWord] at h ⊢
    split at h
    · cases h; rfl
    · exact exec_withInputs xs h

/-- The step on a presented input, from the effect of accepting it. -/
theorem step_presented {x : HostInput} {s t : State} (xs : List HostInput) (h : acceptInput x s = .next t) :
    step { s with inputs := x :: xs } = .next { t with inputs := xs } := by
  rw [step_input rfl]
  exact acceptInput_withInputs (s := s) xs h

end Sys2Proof.Machine
end

