-- ==== Sys2Proof/Machine/Assembler.lean ====
section
/-! DEFINITION. The assembler of R60 and R61: text to the words it stands for. Host-side notation; the block never sees it. -/

namespace Sys2Proof.Machine

/-- The name of an algorithm in assembler text (R11, R53). -/
def algNameChars : Alg → List Char
  | .sum8 => ['S', 'U', 'M', '8']
  | .sum16 => ['S', 'U', 'M', '1', '6']
  | .sum32 => ['S', 'U', 'M', '3', '2']
  | .xor8 => ['X', 'O', 'R', '8']
  | .bsdsum => ['B', 'S', 'D', 'S', 'U', 'M']
  | .sysv => ['S', 'Y', 'S', 'V']
  | .fletcher16 => ['F', 'L', 'E', 'T', 'C', 'H', 'E', 'R', '1', '6']
  | .fletcher32 => ['F', 'L', 'E', 'T', 'C', 'H', 'E', 'R', '3', '2']
  | .adler32 => ['A', 'D', 'L', 'E', 'R', '3', '2']
  | .crc32a => ['C', 'R', 'C', '3', '2', 'A']
  | .crc32b => ['C', 'R', 'C', '3', '2', 'B']

/-- The eleven algorithms in the order of R26. -/
def allAlgs : List Alg :=
  [.sum8, .sum16, .sum32, .xor8, .bsdsum, .sysv, .fletcher16, .fletcher32, .adler32, .crc32a, .crc32b]

/-- The algorithm a name stands for. -/
def algOfName (cs : List Char) : Option Alg := allAlgs.find? fun a => algNameChars a == cs

/-- The line without its comment: a `;` starts one, except inside a character literal or inside a quoted text, which
`quoted` says is open (R60, log 9). -/
def stripComment : (quoted : Bool) → List Char → List Char
  | false, '\'' :: c :: '\'' :: cs => '\'' :: c :: '\'' :: stripComment false cs
  | false, ';' :: _ => []
  | quoted, '"' :: cs => '"' :: stripComment (!quoted) cs
  | quoted, c :: cs => c :: stripComment quoted cs
  | _, [] => []

/-- A blank: a space or a tab. -/
def isBlank (c : Char) : Bool := c == ' ' || c == '\t'

/-- The line without blanks at either end. -/
def trimBlanks (cs : List Char) : List Char := ((cs.dropWhile isBlank).reverse.dropWhile isBlank).reverse

/-- A hexadecimal digit of either case (log 9). -/
def hexValue (c : Char) : Option Nat :=
  if '0' ≤ c ∧ c ≤ '9' then some (c.toNat - 48)
  else if 'A' ≤ c ∧ c ≤ 'F' then some (c.toNat - 55)
  else if 'a' ≤ c ∧ c ≤ 'f' then some (c.toNat - 87)
  else none

/-- A decimal digit. -/
def decValue (c : Char) : Option Nat := if '0' ≤ c ∧ c ≤ '9' then some (c.toNat - 48) else none

/-- The number a list of digits writes in base `base`, after `acc`. -/
def numberOf (base : Nat) (digit : Char → Option Nat) : Nat → List Char → Option Nat
  | acc, [] => some acc
  | acc, c :: cs => (digit c).bind fun d => numberOf base digit (base * acc + d) cs

/-- The byte operand of ABSORB: `0xHH`, decimal 0 .. 255, or one ASCII character in quotes (R60). -/
def byteOfText : List Char → Option Byte
  | ['\'', c, '\''] => if c.toNat < 128 then some (BitVec.ofNat 8 c.toNat) else none
  | ['0', 'x', h, l] => (numberOf 16 hexValue 0 [h, l]).map (BitVec.ofNat 8)
  | [] => none
  | cs => (numberOf 10 decValue 0 cs).bind fun n => if n ≤ 255 then some (BitVec.ofNat 8 n) else none

/-- The operand of `.word`: `0xHHHH` (R60). -/
def wordOfText : List Char → Option CommandWord
  | ['0', 'x', a, b, c, d] => (numberOf 16 hexValue 0 [a, b, c, d]).map (BitVec.ofNat 16)
  | _ => none

/-- `c` in front of the first of the pieces. -/
def consFirst (c : Char) : List (List Char) → List (List Char)
  | [] => [[c]]
  | p :: ps => (c :: p) :: ps

/-- The operands between the commas; a comma inside a character literal separates nothing (R61, log 9). -/
def splitCommas : List Char → List (List Char)
  | '\'' :: c :: '\'' :: cs => consFirst '\'' (consFirst c (consFirst '\'' (splitCommas cs)))
  | ',' :: cs => [] :: splitCommas cs
  | c :: cs => consFirst c (splitCommas cs)
  | [] => [[]]

/-- The bytes that a list of operands writes. -/
def bytesOfTexts : List (List Char) → Option Message
  | [] => some []
  | t :: ts => (byteOfText (trimBlanks t)).bind fun b => (bytesOfTexts ts).map (b :: ·)

/-- The operands `b0, b1, ..., b(n-1)` of MESSAGE and COMPUTE, `n >= 0`: blank text writes no byte (R61, log 9). -/
def messageOfTexts (ts : List (List Char)) : Option Message :=
  if ts.all (fun t => trimBlanks t == []) && ts.length ≤ 1 then some [] else bytesOfTexts ts

/-- The characters of a text in double quotes, none of them a double quote (R61, log 9). -/
def quotedText : List Char → Option (List Char)
  | '"' :: cs =>
    if cs.getLast? = some '"' ∧ !cs.dropLast.contains '"' then some cs.dropLast else none
  | _ => none

/-- The words of a list of commands. -/
def encodeAll (is : List Instr) : List CommandWord := is.map encode

/-- COMPUTE and COMPUTE.S take an algorithm's name and what follows the first comma. -/
def headAndRest (operand : List Char) : Option Alg × List Char :=
  (algOfName (trimBlanks (operand.takeWhile (· != ','))), operand.dropWhile (· != ','))

/-- The expansion of a pseudo-instruction (R61); none for any other text. -/
def expandPseudo (name operand : List Char) : Option (List Instr) :=
  if name = ['M', 'E', 'S', 'S', 'A', 'G', 'E'] then
    (messageOfTexts (splitCommas operand)).map messageCommands
  else if name = ['C', 'O', 'M', 'P', 'U', 'T', 'E'] then
    (headAndRest operand).1.bind fun a =>
      (messageOfTexts (splitCommas ((headAndRest operand).2.drop 1))).map (computeCommands a)
  else if name = ['C', 'O', 'M', 'P', 'U', 'T', 'E', '.', 'S'] then
    (headAndRest operand).1.bind fun a =>
      (quotedText (trimBlanks ((headAndRest operand).2.drop 1))).bind (computeTextCommands a)
  else if name = ['G', 'E', 'T', 'P', 'O', 'L', 'Y'] then
    (algOfName operand).bind fun a => if (generatorPolynomial a).isSome then some (getPolyCommands a) else none
  else none

/-- One line (R60, R61): no word for an empty or comment line, one word for a command or `.word`, the words of its
expansion for a pseudo-instruction, none of these for any other text. -/
def assembleLine (line : List Char) : Option (List CommandWord) :=
  let text := trimBlanks (stripComment false line)
  let name := text.takeWhile fun c => !isBlank c
  let operand := trimBlanks (text.dropWhile fun c => !isBlank c)
  if name = [] then some []
  else if name = ['N', 'O', 'P'] ∧ operand = [] then some [encode .nop]
  else if name = ['S', 'E', 'L', 'E', 'C', 'T'] then (algOfName operand).map fun a => [encode (.select a.code)]
  else if name = ['S', 'T', 'A', 'R', 'T'] ∧ operand = [] then some [encode .start]
  else if name = ['A', 'B', 'S', 'O', 'R', 'B'] then (byteOfText operand).map fun b => [encode (.absorb b)]
  else if name = ['F', 'I', 'N', 'A', 'L'] ∧ operand = [] then some [encode .final]
  else if name = ['.', 'w', 'o', 'r', 'd'] then (wordOfText operand).map fun w => [w]
  else (expandPseudo name operand).map encodeAll

/-- A program, one command per line (R60): the words of its lines in order; none if some line is none. -/
def assemble : List (List Char) → Option (List CommandWord)
  | [] => some []
  | l :: ls => (assembleLine l).bind fun ws => (assemble ls).map (ws ++ ·)

end Sys2Proof.Machine
end

