-- ==== Sys2Proof/Tests/Slice0.lean ====
section
/-! SUPPORT. Tests. Expected values are the spec's own: the encodings of 30_encoding.md and the vectors of
95_test_vectors.md and of the rules named. -/

namespace Sys2Proof.Tests

open Sys2Proof.Machine Sys2Proof.Safety

/-- An open message under `a`, with given registers and length. -/
def openWith (a : Alg) (a0 a1 : Word) (n : Nat) : State :=
  { State.reset with alg := some a, acc0 := a0, acc1 := a1, len := n, busy := true }

/-- No message open, `a` selected. -/
def idleWith (a : Alg) : State := { State.reset with alg := some a }

/-- What a step's result shows in (ACC0, ACC1, LEN, RESULT, STATUS). -/
def shown (o : Host.Outcome State Fault Refusal) : Option (Word × Word × Nat × Word × BitVec 6) :=
  (nextState? o).map fun t => (t.acc0, t.acc1, t.len, t.result, statusPort t)

/-! Well-formedness: the one check, and what it refuses (R57). -/

theorem test_wf_refuses_reserved_code : (Instr.select 0xB).wellFormed = false := by decide
theorem test_wf_refuses_none_code : (Instr.select 0xF).wellFormed = false := by decide
theorem test_wf_accepts_last_code : (Instr.select 0xA).wellFormed = true := by decide

/-! Decoding: words written out bit by bit from R51 and R52. -/

theorem test_decode_nop : decode 0b0000_0000_00000000#16 = .legal .nop := by decide
theorem test_decode_select : decode 0b0001_1010_00000000#16 = .legal (.select 0xA) := by decide
theorem test_decode_start : decode 0b0010_0000_00000000#16 = .legal .start := by decide
theorem test_decode_absorb : decode 0b0011_0000_01100001#16 = .legal (.absorb 0x61) := by decide
theorem test_decode_final : decode 0b0100_0000_00000000#16 = .legal .final := by decide

/-- R153's examples, and one of each decoder cause. -/
theorem test_decode_illegal :
    decode 0x1B01 = .illegal .nonZeroField ∧ decode 0x1B00 = .illegal .reservedAlgorithm ∧
    decode 0x5FFF = .illegal .reservedOpcode ∧ decode 0x3161 = .illegal .nonZeroField ∧
    decode 0x4F00 = .illegal .nonZeroField ∧ decode 0x0001 = .illegal .nonZeroField := by decide

/-- The table's numbering: bit 0 is the word's least significant bit. -/
theorem test_decodeTableWord : decodeTableWord 16 0x1A00 = some (.select 0xA) ∧ decodeTableWord 16 0x1B00 = none := by
  decide

/-! One step of each command. -/

/-- R71's example. -/
theorem test_nop : shown (step ((openWith .crc32b 0x174841BC 0 1).withFetchWord 16 0x0000)) =
    some (0x174841BC, 0, 1, 0, 0x01) := by decide +kernel

/-- R72's example: from reset, 0x1A00. -/
theorem test_select : (nextState? (step (State.reset.withFetchWord 16 0x1A00))).map
    (fun t => (algCode t.alg, polyPort t, statusPort t)) = some (0xA, 0xEDB88320, 0x00) := by decide +kernel

/-- 95 section 2.5: SELECT while a message is open, even of the code in ALG. -/
theorem test_select_busy : shown (step ((openWith .sum8 7 0 1).withFetchWord 16 0x1000)) =
    some (7, 0, 1, 0, 0x25) := by decide +kernel

/-- R73's example. -/
theorem test_start : shown (exec .start { idleWith .adler32 with valid := true, result := 0x024D0127, len := 3 }) =
    some (0x00000001, 0x00000000, 0, 0x024D0127, 0x01) := by decide +kernel

/-- 95 section 2.5: START with no algorithm selected. -/
theorem test_start_unselected : shown (step (State.reset.withFetchWord 16 0x2000)) = some (0, 0, 0, 0, 0x2C) := by
  decide +kernel

/-- R74's example: ABSORB 2 under BSDSUM. -/
theorem test_absorb : shown (step ((openWith .bsdsum 1 0 1).withFetchWord 16 0x3002)) =
    some (0x8002, 0, 2, 0, 0x01) := by decide +kernel

/-- 95 section 2.5: ABSORB while idle. -/
theorem test_absorb_idle : shown (step (State.reset.withFetchWord 16 0x3061)) = some (0, 0, 0, 0, 0x34) := by
  decide +kernel

/-- 95 section 2.3: FINAL under CRC32A after "abcdef". -/
theorem test_final_crc32a : shown (exec .final (openWith .crc32a 0x65700C34 0 6)) =
    some (0xD1EAD44E, 0, 6, 0x2E152BB1, 0x02) := by decide +kernel

/-- R75's example: FINAL under CRC32B after "abcdef". -/
theorem test_final_crc32b : shown (exec .final (openWith .crc32b 0xB471C610 0 6)) =
    some (0xB471C610, 0, 6, 0x4B8E39EF, 0x02) := by decide +kernel

/-! The functions the commands dispatch to (95 section 2.3). -/

theorem test_single_sums :
    (sum8Update 0xFF 0 0xFF).1 = 0xFE ∧ (sum16Update 0xFF01 0 0xFF).1 = 0 ∧
    (sum32Update .w24 0xFFFFFF 0 0xFF).1 = 0xFE ∧ (sum32Update .w16 0xFFFF 0 1).1 = 0 ∧
    (sum32Update .w32 0xFFFFFF 0 1).1 = 0x1000000 ∧ (xor8Update 0xAA 0 0x55).1 = 0xFF ∧
    (bsdsumUpdate 0xFF01 0 0xFF).1 = 0x7F ∧ (bsdsumUpdate 0x8002 0 3).1 = 0x4004 ∧
    (sysvUpdate 0xFFFFFFFF 0 1).1 = 0 := by decide +kernel

theorem test_double_sums :
    fletcher16Update 100 200 200 = (45, 245) ∧ fletcher16Update 254 254 255 = (254, 253) ∧
    fletcher32Update 65534 65534 255 = (254, 253) ∧ fletcher32Update 65280 0 255 = (0, 0) ∧
    adler32Update 65520 65520 1 = (0, 65520) ∧ adler32Update 1 0 0 = (1, 1) := by decide +kernel

theorem test_compositions :
    (sysvFinal 0x0001FFFF).1 = 1 ∧ (sysvFinal 0xFFFFFFFF).1 = 0xFFFF ∧ (sysvFinal 0x8000FFFF).1 = 0x8000 ∧
    (fletcher16Final 0x39 0x84).1 = 0x8439 ∧ (fletcher32Final 0xFFFE 0xFFFE).1 = 0xFFFEFFFE ∧
    (adler32Final 0x139 0x58A).1 = 0x058A0139 := by decide +kernel

theorem test_crc_bytes :
    crcaByte 0 0x80 = 0x690CE0EE ∧ crcaByte 0xFFFFFFFF 0x00 = 0x4E08BFB4 ∧ crcaByte 0xFFFFFFFF 0xFF = 0xFFFFFF00 ∧
    crcbByte 0 0x01 = 0x77073096 ∧ crcbByte 0xFFFFFFFF 0x61 = 0x174841BC ∧ crcbByte 0xFFFFFFFF 0x00 = 0x2DFD1072 := by
  decide +kernel

theorem test_len_bytes :
    lenBytes .lsbFirst 0 = [] ∧ lenBytes .lsbFirst 255 = [0xFF] ∧ lenBytes .lsbFirst 300 = [0x2C, 0x01] ∧
    lenBytes .msbFirst 300 = [0x01, 0x2C] ∧ lenBytes .lsbFirst 0x01020304 = [4, 3, 2, 1] := by decide +kernel

/-- The document's own vectors for "abcdef" (95 section 1.1, rows 8 to 13). -/
theorem test_document_vectors : (asciiBytes ['a', 'b', 'c', 'd', 'e', 'f']).map (fun m =>
      [Alg.sum8, .sum16, .sum32, .bsdsum, .crc32a, .crc32b].map (compute defaultConfig · m)) =
    some [85, 597, 597, 2247, 773139377, 1267612143] := by decide +kernel

theorem test_toHex : toHex 42 = ['2', 'a'] ∧ toHex 0 = ['0'] ∧ toHex 1234 = ['4', 'd', '2'] := by decide +kernel

/-- The assembler lines of R60. -/
theorem test_assembler :
    assembleLine ['A', 'B', 'S', 'O', 'R', 'B', ' ', '\'', 'a', '\''] = some [0x3061] ∧
    assembleLine ['A', 'B', 'S', 'O', 'R', 'B', ' ', '2', '5', '5', ';', 'x'] = some [0x30FF] ∧
    assembleLine ['S', 'E', 'L', 'E', 'C', 'T', ' ', 'X', 'O', 'R', '8'] = some [0x1300] ∧
    assembleLine ['.', 'w', 'o', 'r', 'd', ' ', '0', 'x', '1', 'B', '0', '0'] = some [0x1B00] ∧
    assembleLine ['A', 'B', 'S', 'O', 'R', 'B', ' ', '2', '5', '6'] = none := by decide +kernel

/-- The pseudo-instructions of R61. -/
theorem test_pseudo_instructions :
    assembleLine ['M', 'E', 'S', 'S', 'A', 'G', 'E'] = some [0x2000, 0x4000] ∧
    assembleLine ['M', 'E', 'S', 'S', 'A', 'G', 'E', ' ', '1', ',', ' ', '\'', ',', '\''] =
      some [0x2000, 0x3001, 0x302C, 0x4000] ∧
    assembleLine ['C', 'O', 'M', 'P', 'U', 'T', 'E', '.', 'S', ' ', 'S', 'U', 'M', '8', ',', ' ', '"', 'a', ';', '"'] =
      some [0x1000, 0x2000, 0x3061, 0x303B, 0x4000] ∧
    assembleLine ['G', 'E', 'T', 'P', 'O', 'L', 'Y', ' ', 'C', 'R', 'C', '3', '2', 'B'] = some [0x1A00] ∧
    assembleLine ['G', 'E', 'T', 'P', 'O', 'L', 'Y', ' ', 'S', 'U', 'M', '8'] = none := by decide +kernel

end Sys2Proof.Tests
end

