-- ==== Sys2Proof/Tests/Witnesses.lean ====
section
/-! SUPPORT. For every obligation with hypotheses, a concrete case that meets them; for one with several clauses, one for
each clause, at a boundary value where the clause has a range. -/

namespace Sys2Proof.Tests

open Sys2Proof.Machine Sys2Proof.Safety

/-- A state that has recorded an error. -/
def erred (s : State) : State := { s with err := true, cause := some .reservedOpcode }

theorem witness_DecodeInvertsEncode : WellFormed (.select 0xA) ∧ WellFormed (.absorb 0xFF) := by decide

theorem witness_DecodedWordIsItsEncoding : decode 0x30FF = .legal (.absorb 0xFF) ∧ decode 0x1A00 = .legal (.select 0xA) := by
  decide

theorem witness_OpcodeMapSelectsCommands : 0x5 ≤ (opField 0x5000).toNat ∧ 0x5 ≤ (opField 0xFFFF).toNat := by decide

theorem witness_StepRunsDecodedCommand :
    ((openWith .sum8 7 0 1).withFetchWord 16 0x3001).inputs = .command 0x3001 :: [] ∧
    decode 0x3001 = .legal (.absorb 1) := ⟨rfl, by decide⟩

theorem witness_AdmissionChecks :
    decode 0x1B00 = .illegal .reservedAlgorithm ∧
    (decode 0x1000 = .legal (.select 0) ∧ (openWith .sum8 0 0 0).busy = true) ∧
    (decode 0x2000 = .legal .start ∧ State.reset.alg = none) ∧
    (decode 0x3000 = .legal (.absorb 0) ∧ State.reset.busy = false) ∧
    (decode 0x4000 = .legal .final ∧ State.reset.busy = false) ∧ decode 0x0000 = .legal .nop := by decide

theorem witness_RaiseRecordsFirstCause : State.reset.err = false ∧ (erred State.reset).err = true := by decide

theorem witness_NothingHappensWithoutInput : State.reset.inputs = [] := rfl

theorem witness_RunsAreFoldsOfTheStep : ∃ t, runInputs [.command 0x1000, .reset] State.reset = .next t := ⟨_, rfl⟩

theorem witness_ResetEventAndOnlyReset :
    ({ openWith .sum8 7 0 1 with inputs := [.reset] } : State).inputs = .reset :: [] ∧
    (∃ t, acceptWord 0x1000 (erred State.reset) = .next t) ∧ (erred State.reset).err = true ∧
    (∃ t, acceptWord 0x2000 (idleWith .sum8) = .next t) ∧ (idleWith .sum8).alg ≠ none :=
  ⟨rfl, ⟨_, rfl⟩, rfl, ⟨_, rfl⟩, by decide⟩

theorem witness_NopCompletesUnchanged : (opField 0x0001).toNat = 0 ∧ (0x0001 : CommandWord) ≠ 0x0000 := by decide

theorem witness_SelectCompletesWhileIdle :
    ((0xA : BitVec 4).toNat ≤ 0xA ∧ State.reset.busy = false) ∧
    ((0xA : BitVec 4).toNat ≤ 0xA ∧ (openWith .sum8 0 0 0).busy = true) ∧
    0xB ≤ (0xB : BitVec 4).toNat ∧ ((opField 0x1001).toNat = 1 ∧ dataField 0x1001 ≠ 0) := by decide

theorem witness_StartLoadsInitialState :
    (idleWith .crc32b).alg = some .crc32b ∧ (openWith .adler32 5 6 2).alg = some .adler32 ∧ State.reset.alg = none ∧
    ((opField 0x2001).toNat = 2 ∧ (0x2001 : CommandWord) ≠ 0x2000) := by decide

theorem witness_AbsorbCompletesInOpenMessage :
    (openWith .adler32 65520 65520 1).busy = true ∧ (openWith .adler32 65520 65520 1).alg = some .adler32 ∧
    (openWith .crc32a 0 0 1).alg ≠ some .fletcher16 ∧ (openWith .crc32a 0 0 1).alg ≠ some .fletcher32 ∧
    (openWith .crc32a 0 0 1).alg ≠ some .adler32 ∧ State.reset.busy = false ∧
    ((opField 0x3161).toNat = 3 ∧ algField 0x3161 ≠ 0) := by decide

theorem witness_FinalPublishesAndCloses :
    (openWith .sysv 0xFFFFFFFF 0 1).busy = true ∧ (openWith .sysv 0xFFFFFFFF 0 1).alg = some .sysv ∧
    (openWith .sysv 0xFFFFFFFF 0 1).alg ≠ some .crc32a ∧ State.reset.busy = false ∧
    ((opField 0x4F00).toNat = 4 ∧ (0x4F00 : CommandWord) ≠ 0x4000) := by decide

/-- Each element of R20 does change under a command of its column. -/
theorem witness_ElementsWrittenOnlyByTheirCommands :
    (∃ t, exec (.absorb 5) (openWith .fletcher16 1 1 1) = .next t ∧ t.acc0 ≠ 1 ∧ t.acc1 ≠ 1 ∧ t.len ≠ 1) ∧
    (∃ t, exec (.select 3) (idleWith .sum8) = .next t ∧ t.alg ≠ (idleWith .sum8).alg) ∧
    (∃ t, exec .final (openWith .crc32a 0 0 1) = .next t ∧ t.result ≠ 0 ∧ t.acc0 ≠ 0 ∧ t.busy ≠ true ∧ t.valid ≠ false) ∧
    (∃ t, exec .final State.reset = .next t ∧ t.err ≠ State.reset.err) :=
  ⟨⟨_, rfl, by decide +kernel⟩, ⟨_, rfl, by decide⟩, ⟨_, rfl, by decide +kernel⟩, ⟨_, rfl, by decide⟩⟩

theorem witness_PhasesMoveAsTheTableSays :
    (State.reset.alg = none ∧ State.reset.busy = false ∧ ∃ t, exec (.select 0xA) State.reset = .next t) ∧
    ((idleWith .sum8).alg ≠ none ∧ (idleWith .sum8).busy = false ∧ ∃ t, exec .start (idleWith .sum8) = .next t) ∧
    ((openWith .sum8 1 0 1).alg ≠ none ∧ (openWith .sum8 1 0 1).busy = true ∧
      ∃ t, exec .final (openWith .sum8 1 0 1) = .next t) :=
  ⟨⟨rfl, rfl, _, rfl⟩, ⟨by decide, rfl, _, rfl⟩, ⟨by decide, rfl, _, rfl⟩⟩

/-- Every algorithm has an open message: the premises of all statements about ABSORB and FINAL under one algorithm. -/
theorem witness_open_message (a : Alg) (a0 a1 : Word) (n : Nat) :
    (openWith a a0 a1 n).busy = true ∧ (openWith a a0 a1 n).alg = some a := ⟨rfl, rfl⟩

theorem witness_MaskedSumsWrap :
    ((openWith .sum8 0xFF 0 1).busy = true ∧ (openWith .sum8 0xFF 0 1).alg = some .sum8) ∧
    ((openWith .sum16 0xFFFF 0 1).busy = true ∧ (openWith .sum16 0xFFFF 0 1).alg = some .sum16) := by decide

theorem witness_Sum32KeepsItsMaskWidth :
    ((openWith .sum32 0xFFFFFF 0 1).busy = true ∧ (openWith .sum32 0xFFFFFF 0 1).alg = some .sum32) ∧
    (([0xFF] : Message).map BitVec.toNat).sum < 65536 ∧ defaultConfig.sum32W = .w24 ∧
    ({ defaultConfig with sum32W := .w32 } : Config).sum32W = .w32 ∧
    ({ defaultConfig with sum32W := .w16 } : Config).sum32W = .w16 ∧
    (([0xFF] : Message).map BitVec.toNat).sum < 2 ^ 24 := by decide

theorem witness_XorAndRotateSums :
    ((openWith .xor8 0xFF 0 1).busy = true ∧ (openWith .xor8 0xFF 0 1).alg = some .xor8) ∧
    ((openWith .bsdsum 0xFFFF 0 1).busy = true ∧ (openWith .bsdsum 0xFFFF 0 1).alg = some .bsdsum ∧
      (openWith .bsdsum 0xFFFF 0 1).acc0.toNat < 2 ^ 16) := by decide

theorem witness_SysvFoldsTheUnboundedSum :
    (openWith .sysv 0xFFFFFFFF 0 1).busy = true ∧ (openWith .sysv 0xFFFFFFFF 0 1).alg = some .sysv := by decide

theorem witness_TwoRegisterSums : ∀ p ∈ [(Alg.fletcher16, 254), (Alg.fletcher32, 65534), (Alg.adler32, 65520)],
    (openWith p.1 p.2 p.2 1).busy = true ∧ (openWith p.1 p.2 p.2 1).alg = some p.1 := by decide

theorem witness_TwoRegisterCompositions : ∀ p ∈ [(Alg.fletcher16, 255), (Alg.fletcher32, 65535), (Alg.adler32, 65521)],
    (openWith p.1 (BitVec.ofNat 32 (p.2 - 1)) (BitVec.ofNat 32 (p.2 - 1)) 1).busy = true ∧
    (openWith p.1 (BitVec.ofNat 32 (p.2 - 1)) (BitVec.ofNat 32 (p.2 - 1)) 1).alg = some p.1 ∧
    (openWith p.1 (BitVec.ofNat 32 (p.2 - 1)) (BitVec.ofNat 32 (p.2 - 1)) 1).acc0.toNat < p.2 ∧
    (openWith p.1 (BitVec.ofNat 32 (p.2 - 1)) (BitVec.ofNat 32 (p.2 - 1)) 1).acc1.toNat < p.2 := by decide

theorem witness_SingleSumsPublishTheAccumulator : ∀ a ∈ [Alg.sum8, .sum16, .sum32, .xor8, .bsdsum],
    (openWith a 0xFF 0 1).busy = true ∧ (openWith a 0xFF 0 1).alg = some a := by decide

theorem witness_CrcBytesAreEightDivisions :
    ((openWith .crc32a 0x80000000 0 1).busy = true ∧ (openWith .crc32a 0x80000000 0 1).alg = some .crc32a) ∧
    ((openWith .crc32b 1 0 1).busy = true ∧ (openWith .crc32b 1 0 1).alg = some .crc32b) := by decide

theorem witness_LengthBytesAreBase256Digits : 0 < 1 ∧ 0 < 256 := by decide

theorem witness_Crc32aDrainsTheLength :
    ((openWith .crc32a 0 0 256).busy = true ∧ (openWith .crc32a 0 0 256).alg = some .crc32a) ∧
    ((openWith .crc32a 0 0 0).busy = true ∧ (openWith .crc32a 0 0 0).alg = some .crc32a ∧
      (openWith .crc32a 0 0 0).len = 0) ∧ defaultConfig.lenOrder = .lsbFirst := by decide

theorem witness_Crc32bComplementsTheRegister :
    (openWith .crc32b 0xFFFFFFFF 0 0).busy = true ∧ (openWith .crc32b 0xFFFFFFFF 0 0).alg = some .crc32b := by decide

theorem witness_EmptyMessageIdentities : (idleWith .adler32).alg = some .adler32 ∧ (openWith .crc32a 1 0 9).alg = some .crc32a := by
  decide

theorem witness_UpdatesKeepTheBounds :
    inBounds defaultConfig .fletcher16 254 254 ∧ inBounds defaultConfig .adler32 65520 65520 ∧
    inBounds defaultConfig .sum32 0xFFFFFF 0 := by simp [inBounds, defaultConfig, Sum32Width.bits]

theorem witness_OrderMattersForSixAlgorithms : ([1, 2] : Message).Perm [2, 1] := by decide

theorem witness_ParametersMatterOnlyWhereLeftOpen :
    Alg.sysv ≠ .sum32 ∧ Alg.sysv ≠ .crc32a ∧ (List.replicate 255 (0 : Byte)).length < 256 ∧
    (List.replicate 255 (0 : Byte)).length < 2 ^ defaultConfig.lenW ∧
    (List.replicate 255 (0 : Byte)).length < 2 ^ ({ defaultConfig with lenW := 8 } : Config).lenW := by decide +kernel

theorem witness_PolyFollowsAlg :
    algCode (idleWith .crc32a).alg = 0x9 ∧ algCode (idleWith .crc32b).alg = 0xA ∧
    (algCode State.reset.alg ≠ 0x9 ∧ algCode State.reset.alg ≠ 0xA) ∧
    (∃ t, exec (.select 0x9) State.reset = .next t ∧ polyPort t ≠ polyPort State.reset) :=
  ⟨by decide, by decide, by decide, ⟨_, rfl, by decide⟩⟩

/-- The cause a word records, from a state with no error recorded. -/
def recorded (w : CommandWord) (s : State) : Option (BitVec 3) :=
  (nextState? (acceptWord w s)).map fun t => causeCode t.cause

/-- One word for each of the seven causes, at the boundaries of their ranges. -/
theorem witness_CauseTable :
    State.reset.err = false ∧ State.reset.cause = none ∧ (openWith .sum8 0 0 0).err = false ∧
    (openWith .sum8 0 0 0).cause = none ∧ recorded 0x5000 State.reset = some 1 ∧ recorded 0x4FFF State.reset = some 2 ∧
    recorded 0x3100 State.reset = some 2 ∧ recorded 0x1B00 State.reset = some 3 ∧
    recorded 0x1A00 (openWith .sum8 0 0 0) = some 4 ∧ recorded 0x2000 State.reset = some 5 ∧
    recorded 0x30FF State.reset = some 6 ∧ recorded 0x4000 State.reset = some 7 ∧
    recorded 0x1A00 State.reset = some 0 := by decide +kernel

theorem witness_FirstErrorIsSticky :
    HostInput.reset ∉ [HostInput.command 0x4000, .command 0x1000] ∧ (erred State.reset).err = true ∧
    ∃ t, runInputs [.command 0x4000, .command 0x1000] (erred State.reset) = .next t := ⟨by decide, rfl, _, rfl⟩

theorem witness_ErrGatesNothing : ∃ t, acceptInput (.command 0x3001) (openWith .sum8 1 0 1) = .next t := ⟨_, rfl⟩

theorem witness_StepKeepsTheInvariant :
    Inv ((openWith .fletcher16 254 254 5).withFetchWord 16 0x30FF) ∧
    ∃ t, step ((openWith .fletcher16 254 254 5).withFetchWord 16 0x30FF) = .next t := by
  refine ⟨?_, _, rfl⟩
  constructor <;> simp [State.withFetchWord, presentFirst, openWith, State.reset, State.resetWith, inBounds, defaultConfig]

theorem witness_MessageComputesItsChecksum :
    (idleWith .adler32).alg = some .adler32 ∧
    [Instr.nop, .start, .absorb 1, .nop, .final, .nop].filter (fun i => decide (i ≠ .nop)) = messageCommands [1] := by
  decide

theorem witness_ComputeFromAnyIdleState : State.reset.busy = false ∧ (erred (idleWith .sum8)).busy = false := by decide

theorem witness_BlockAgreesWithMessageHistory :
    Agrees (openWith .sum8 3 0 2) { opened := some [1, 2], closed := none } ∧
    ∃ t, acceptInput (.command 0x4000) (openWith .sum8 3 0 2) = .next t := by
  refine ⟨?_, _, rfl⟩
  constructor
  · decide
  · decide
  · rintro m ⟨⟩
    exact ⟨rfl, .sum8, rfl, by decide +kernel, by decide +kernel⟩
  · simp

theorem witness_WellFormedSequencesNeverFail :
    State.reset.busy = false ∧
    wellFormedSequence State.reset.alg.isSome false [.select 0, .start, .absorb 7, .nop, .final] = true ∧
    ∃ t, runCommands [.select 0, .start, .absorb 7, .nop, .final] State.reset = .next t := ⟨rfl, by decide, _, rfl⟩

theorem witness_InputsToDifferentBlocksCommute : (0 : Nat) ≠ 1 ∧
    ∃ bs₁ bs₂, acceptAt 0 (.command 0x1000) [State.reset, idleWith .sum8] = .next bs₁ ∧
      acceptAt 1 (.command 0x2000) bs₁ = .next bs₂ := ⟨by decide, _, _, rfl, rfl⟩

theorem witness_InputReachesItsBlockAlone :
    ([State.reset, idleWith .sum8] : List State)[1]? = some (idleWith .sum8) := rfl

theorem witness_HexRenderingIsExact : 0 < 1 ∧ 0 < 0xFFFFFFFF := by decide

end Sys2Proof.Tests
end

/-! # Accepting an input

SUPPORT. Every case that accepting one input can take, that it always ends in a next state, and runs as one accepted
input after another (R46, R70, R170). -/

namespace Sys2Proof.Machine

open Sys2Proof.Safety

theorem admitUnless_total (p : Bool) (c : ProtocolError) (s t : State) : ∃ u, admitUnless p c s t = .next u := by
  cases p <;> exact ⟨_, rfl⟩

/-- No command faults and none is refused (R70). -/
theorem exec_total (i : Instr) (s : State) : ∃ t, exec i s = .next t := by
  cases i with
  | nop => exact ⟨_, rfl⟩
  | select a =>
    simp only [exec, execSelect]
    split
    · exact ⟨_, rfl⟩
    · exact admitUnless_total ..
  | start =>
    simp only [exec, execStart]
    split <;> exact ⟨_, rfl⟩
  | absorb b => exact admitUnless_total ..
  | final => exact admitUnless_total ..

/-- Everything the acceptance of one input can do. -/
theorem acceptInput_cases {x : HostInput} {s t : State} (h : acceptInput x s = .next t) :
    (x = .reset ∧ t = resetEvent s) ∨
    (∃ w c, x = .command w ∧ decode w = .illegal c ∧ t = raiseProtocolError c s) ∨
    (∃ w i, x = .command w ∧ decode w = .legal i ∧ exec i s = .next t) := by
  cases x with
  | reset => exact .inl ⟨rfl, by simpa [acceptInput] using h.symm⟩
  | command w =>
    cases hw : decode w with
    | illegal c =>
      have ht : t = raiseProtocolError c s := by simpa [acceptInput, acceptWord_illegal s hw] using h.symm
      exact .inr (.inl ⟨w, c, rfl, hw, ht⟩)
    | legal i =>
      have ht : exec i s = .next t := by simpa [acceptInput, acceptWord_legal s hw] using h
      exact .inr (.inr ⟨w, i, rfl, hw, ht⟩)

/-- Every input has a next state (R70). -/
theorem acceptInput_total (x : HostInput) (s : State) : ∃ t, acceptInput x s = .next t := by
  cases x with
  | reset => exact ⟨_, rfl⟩
  | command w =>
    cases hw : decode w with
    | illegal c => exact ⟨_, acceptWord_illegal s hw⟩
    | legal i => simpa only [acceptInput, acceptWord_legal s hw] using exec_total i s

theorem runInputs_nil (s : State) : runInputs [] s = .next { s with inputs := [] } := rfl

theorem runInputs_cons {x : HostInput} {s u : State} (xs : List HostInput) (h : acceptInput x s = .next u) :
    runInputs (x :: xs) s = runInputs xs u := core_run_succ (step_presented xs h)

/-- A relation between a run's first and last state holds of every run over `xs` when it holds of the empty run and each
input of `xs` carries it one state backwards. -/
theorem runInputs_induction {R : State → State → Prop} (xs : List HostInput)
    (hnil : ∀ s, R s { s with inputs := [] })
    (hcons : ∀ x ∈ xs, ∀ s u t, acceptInput x s = .next u → R u t → R s t)
    {s t : State} (h : runInputs xs s = .next t) : R s t := by
  induction xs generalizing s with
  | nil => cases h; exact hnil s
  | cons x xs ih =>
    obtain ⟨u, hu⟩ := acceptInput_total x s
    rw [runInputs_cons xs hu] at h
    exact hcons x (by simp) s u t hu (ih (fun y hy => hcons y (by simp [hy])) h)

end Sys2Proof.Machine

/-! # The bounds of R23

SUPPORT. Every initial state meets them, every update keeps them (R112), and a checksum computed
within them fits its algorithm's width (R110). -/

namespace Sys2Proof.Machine

open Sys2Proof.Safety

theorem narrow_toNat_le (n : Nat) : (narrow n).toNat ≤ n := by
  rw [narrow, BitVec.toNat_ofNat]
  exact Nat.mod_le n _

theorem narrow_mod_lt (n : Nat) {m : Nat} (hm : 0 < m) : (narrow (n % m)).toNat < m :=
  (narrow_toNat_le _).trans_lt (Nat.mod_lt n hm)

theorem narrow_maskLow_lt (k v : Nat) : (narrow (maskLow k v)).toNat < 2 ^ k := by
  rw [maskLow_eq_mod]
  exact narrow_mod_lt v (Nat.two_pow_pos k)

theorem twoSums_lt {m : Nat} (hm : 0 < m) (a0 a1 : Word) (b : Byte) :
    (twoSums m a0 a1 b).1.toNat < m ∧ (twoSums m a0 a1 b).2.toNat < m :=
  ⟨narrow_mod_lt _ hm, narrow_mod_lt _ hm⟩

theorem byteWord_toNat_lt (b : Byte) : (byteWord b).toNat < 2 ^ 8 :=
  (narrow_toNat_le _).trans_lt b.isLt

theorem xor_byteWord_lt {a0 : Word} (b : Byte) (h : a0.toNat < 2 ^ 8) : (a0 ^^^ byteWord b).toNat < 2 ^ 8 := by
  rw [BitVec.toNat_xor]
  exact Nat.xor_lt_two_pow h (byteWord_toNat_lt b)

/-- The composition of two 8-bit halves fits 16 bits. -/
theorem composeHalves_8_lt {a0 a1 : Word} (h0 : a0.toNat < 2 ^ 8) (h1 : a1.toNat < 2 ^ 8) :
    (composeHalves 8 a0 a1).toNat < 2 ^ 16 := by
  have hsum : a1.toNat <<< 8 ||| a0.toNat < 2 ^ 16 := by
    rw [← Nat.shiftLeft_add_eq_or_of_lt h0, Nat.shiftLeft_eq]
    omega
  rw [composeHalves, publish_fits _ (hsum.trans (by decide))]
  exact (narrow_toNat_le _).trans_lt hsum

@[simp] theorem updateSelected_some (c : Config) (a : Alg) (a0 a1 : Word) (b : Byte) :
    updateSelected c (some a) a0 a1 b = updateState c a a0 a1 b := rfl

@[simp] theorem finalSelected_some (c : Config) (a : Alg) (a0 a1 : Word) (n : Nat) :
    finalSelected c (some a) a0 a1 n = finalState c a a0 a1 n := rfl

theorem initState_inBounds (c : Config) (a : Alg) : inBounds c a (initState a).1 (initState a).2 := by
  cases a with
  | adler32 => simp [inBounds, initState, adler32Init]
  | sum32 => exact ⟨Nat.two_pow_pos _, rfl⟩
  | crc32a | crc32b | sysv => rfl
  | sum8 | sum16 | xor8 | bsdsum => exact ⟨Nat.two_pow_pos _, rfl⟩
  | fletcher16 | fletcher32 => exact ⟨by decide, by decide⟩

theorem updateState_inBounds {c : Config} {a : Alg} {a0 a1 : Word} (b : Byte) (h : inBounds c a a0 a1) :
    inBounds c a (updateState c a a0 a1 b).1 (updateState c a a0 a1 b).2 := by
  cases a with
  | sum8 | sum16 | sum32 | bsdsum => exact ⟨narrow_maskLow_lt _ _, h.2⟩
  | xor8 => exact ⟨xor_byteWord_lt b h.1, h.2⟩
  | sysv | crc32a | crc32b => exact h
  | fletcher16 | fletcher32 | adler32 => exact twoSums_lt (by decide) a0 a1 b

/-- Algorithms of width 32 fill the register; the narrower ones publish ACC0, or two halves, within their bounds. -/
theorem finalState_lt_width {c : Config} {a : Alg} {a0 a1 : Word} (n : Nat) (h : inBounds c a a0 a1) :
    (finalState c a a0 a1 n).1.toNat < 2 ^ algWidth a := by
  cases a with
  | sum8 | sum16 | xor8 | bsdsum => exact h.1
  | fletcher16 =>
    obtain ⟨h0, h1⟩ := h
    exact composeHalves_8_lt (h0.trans (by decide)) (h1.trans (by decide))
  | sum32 | sysv | fletcher32 | adler32 | crc32a | crc32b => exact BitVec.isLt _

end Sys2Proof.Machine

/-! # The invariant of R39

Reset establishes it and every step keeps it. -/

namespace Sys2Proof.Safety

open Sys2Proof.Machine

/-- Settles O46: no message is open, no result is valid and no error is recorded. -/
theorem resetMeetsTheInvariant : Obligations.ResetMeetsTheInvariant := fun c =>
  { busy_selected := by simp
    valid_idle := by simp
    cause_iff_err := by simp
    busy_bounds := by simp
    len_bound := by simp
    valid_width := by simp }

/-- The invariant does not speak of the inputs still to come. -/
theorem Inv.withInputs {s : State} (hs : Inv s) (xs : List HostInput) : Inv { s with inputs := xs } :=
  { hs with }

theorem Inv.resetEvent (s : State) : Inv (resetEvent s) :=
  (resetMeetsTheInvariant s.config).withInputs s.inputs

theorem Inv.raiseProtocolError {s : State} (hs : Inv s) (c : ProtocolError) : Inv (raiseProtocolError c s) :=
  { hs with
    cause_iff_err := by
      cases he : s.err
      · simp [he]
      · simp [he, hs.cause_iff_err] }

theorem Inv.selectAlgorithm {s : State} (hs : Inv s) (a : Alg) (hb : s.busy = false) : Inv (selectAlgorithm a s) :=
  { hs with
    busy_selected := by simp [hb]
    valid_idle := by simp
    busy_bounds := by simp [hb]
    valid_width := by simp }

theorem Inv.openMessage {s : State} {a : Alg} (hs : Inv s) (ha : s.alg = some a) :
    Inv (openMessage (initState a) s) :=
  { hs with
    busy_selected := by simp [ha]
    valid_idle := by simp
    busy_bounds := by
      rintro a' - ha'
      obtain rfl : a = a' := by simpa [ha] using ha'
      exact initState_inBounds s.config a
    len_bound := by simp
    valid_width := by simp }

theorem Inv.absorbInto {s : State} (hs : Inv s) (b : Byte) (hb : s.busy = true) :
    Inv (absorbInto (updateSelected s.config s.alg s.acc0 s.acc1 b) s) :=
  { hs with
    busy_bounds := by
      rintro a - ha
      rw [absorbInto_alg] at ha
      simpa [ha] using updateState_inBounds b (hs.busy_bounds a hb ha)
    len_bound := Nat.mod_lt _ (Nat.two_pow_pos _) }

theorem Inv.closeMessage {s : State} (hs : Inv s) (hb : s.busy = true) :
    Inv (closeMessage (finalSelected s.config s.alg s.acc0 s.acc1 s.len) s) :=
  { hs with
    busy_selected := by simp
    valid_idle := by simp
    busy_bounds := by simp
    valid_width := by
      obtain ⟨hsel, -⟩ := hs.busy_selected hb
      obtain ⟨a, ha⟩ := Option.ne_none_iff_exists'.mp hsel
      rintro -
      exact ⟨a, ha, by simpa [ha] using finalState_lt_width s.len (hs.busy_bounds a hb ha)⟩ }

theorem Inv.exec {i : Instr} {s t : State} (hs : Inv s) (h : exec i s = .next t) : Inv t := by
  obtain ⟨c, rfl⟩ | ⟨-, rfl⟩ | ⟨-, a, -, -, hb, rfl⟩ | ⟨a, -, ha, rfl⟩ | ⟨b, -, hb, rfl⟩ | ⟨-, hb, rfl⟩ :=
    exec_cases h
  · exact hs.raiseProtocolError c
  · exact hs
  · exact hs.selectAlgorithm a hb
  · exact hs.openMessage ha
  · exact hs.absorbInto b hb
  · exact hs.closeMessage hb

theorem Inv.acceptInput {x : HostInput} {s t : State} (hs : Inv s) (h : acceptInput x s = .next t) : Inv t := by
  obtain ⟨-, rfl⟩ | ⟨-, c, -, -, rfl⟩ | ⟨-, i, -, -, hi⟩ := acceptInput_cases h
  · exact .resetEvent s
  · exact hs.raiseProtocolError c
  · exact hs.exec hi

/-- Settles O47: a step is idle or accepts one input, and either keeps the invariant. -/
theorem stepKeepsTheInvariant : Obligations.StepKeepsTheInvariant := by
  intro s t hs h
  cases hx : s.inputs with
  | nil =>
    rw [step_idle hx] at h
    cases h; exact hs
  | cons x rest =>
    rw [step_input hx] at h
    exact (hs.withInputs rest).acceptInput h

end Sys2Proof.Safety

/-! # The decoder

SUPPORT. A decoded SELECT names an algorithm. -/

namespace Sys2Proof

/-- A value that the first branch does not have comes from the second. -/
theorem else_of_ite_eq {α : Type} {p : Prop} [Decidable p] {x y z : α} (h : (if p then x else y) = z) (hx : x ≠ z) :
    ¬p ∧ y = z := by
  by_cases hp : p
  · rw [if_pos hp] at h
    exact absurd h hx
  · rw [if_neg hp] at h
    exact ⟨hp, h⟩

/-- The decoder refuses the codes 0xB to 0xF itself (R57, R59): the seventh of the arms before SELECT's. -/
theorem code_le_of_decode_select {w : CommandWord} {a : BitVec 4} (h : decode w = .legal (.select a)) :
    a.toNat ≤ 0xA := by
  unfold decode at h
  extract_lets op alg data at h
  iterate 6 obtain ⟨-, h⟩ := else_of_ite_eq h nofun
  obtain ⟨hreserved, h⟩ := else_of_ite_eq h nofun
  obtain ⟨-, h⟩ := else_of_ite_eq h nofun
  by_cases hop : op = 0x1
  · rw [if_pos hop] at h
    obtain rfl : alg = a := by simpa using h
    have hlt : ¬ 0xB ≤ alg.toNat := fun hle => hreserved ⟨hop, hle⟩
    omega
  · rw [if_neg hop] at h
    iterate 2 obtain ⟨-, h⟩ := else_of_ite_eq h nofun
    cases h

theorem ofCode_isSome_of_decode_select {w : CommandWord} {a : BitVec 4} (h : decode w = .legal (.select a)) :
    (Alg.ofCode? a).isSome := by
  rw [ofCode_isSome]
  exact decide_eq_true (code_le_of_decode_select h)

end Sys2Proof

/-! # The message history

R24, R30: reset agrees with the empty history, and every input keeps the agreement. -/

namespace Sys2Proof.Machine

open Sys2Proof.Safety

@[simp] theorem workingState_nil (c : Config) (a : Alg) : workingState c a [] = initState a := rfl

theorem workingState_concat (c : Config) (a : Alg) (m : Message) (b : Byte) :
    workingState c a (m ++ [b]) = updateState c a (workingState c a m).1 (workingState c a m).2 b := by
  simp [workingState]

end Sys2Proof.Machine

namespace Sys2Proof.Safety

open Sys2Proof.Machine

/-! How each kind of input changes the history, said once. -/

@[simp] theorem History.next_reset (alg : Option Alg) (h : History) : h.next .reset alg = .empty := rfl

theorem History.next_illegal {w : CommandWord} {c : ProtocolError} (hw : decode w = .illegal c) (alg : Option Alg)
    (h : History) : h.next (.command w) alg = h := by simp [History.next, hw]

theorem History.next_nop {w : CommandWord} (hw : decode w = .legal .nop) (alg : Option Alg) (h : History) :
    h.next (.command w) alg = h := by simp [History.next, hw]

theorem History.next_select {w : CommandWord} {a : BitVec 4} (hw : decode w = .legal (.select a)) (alg : Option Alg)
    (h : History) : h.next (.command w) alg = if h.opened.isSome then h else { h with closed := none } := by
  simp [History.next, hw]

theorem History.next_start {w : CommandWord} (hw : decode w = .legal .start) (alg : Option Alg) (h : History) :
    h.next (.command w) alg = if alg.isSome then { opened := some [], closed := none } else h := by
  simp [History.next, hw]

theorem History.next_absorb_none {w : CommandWord} {b : Byte} (hw : decode w = .legal (.absorb b)) (alg : Option Alg)
    {h : History} (ho : h.opened = none) : h.next (.command w) alg = h := by simp [History.next, hw, ho]

theorem History.next_absorb_some {w : CommandWord} {b : Byte} (hw : decode w = .legal (.absorb b)) (alg : Option Alg)
    {h : History} {m : Message} (ho : h.opened = some m) :
    h.next (.command w) alg = { h with opened := some (m ++ [b]) } := by simp [History.next, hw, ho]

theorem History.next_final_none {w : CommandWord} (hw : decode w = .legal .final) (alg : Option Alg)
    {h : History} (ho : h.opened = none) : h.next (.command w) alg = h := by simp [History.next, hw, ho]

theorem History.next_final_some {w : CommandWord} (hw : decode w = .legal .final) (alg : Option Alg)
    {h : History} {m : Message} (ho : h.opened = some m) :
    h.next (.command w) alg = { opened := none, closed := some m } := by simp [History.next, hw, ho]

/-- Settles O50: no message is open and no result is valid. -/
theorem resetAgreesWithEmptyHistory : Obligations.ResetAgreesWithEmptyHistory := fun c =>
  { busy_iff := by simp [History.empty]
    valid_iff := by simp [History.empty]
    opened_state := by simp [History.empty]
    closed_result := by simp [History.empty] }

section
variable {s : State} {h : History}

theorem Agrees.opened_of_idle (hs : Agrees s h) (hb : s.busy = false) : h.opened = none := by
  simpa [hb] using hs.busy_iff

theorem Agrees.opened_of_busy (hs : Agrees s h) (hb : s.busy = true) : ∃ m, h.opened = some m :=
  Option.isSome_iff_exists.mp (hs.busy_iff.mp hb)

/-- The agreement does not speak of ERR, CAUSE and the inputs still to come. -/
theorem Agrees.raiseProtocolError (hs : Agrees s h) (c : ProtocolError) : Agrees (raiseProtocolError c s) h :=
  { hs with }

theorem Agrees.resetEvent (s : State) : Agrees (resetEvent s) .empty :=
  { resetAgreesWithEmptyHistory s.config with }

theorem Agrees.selectAlgorithm (hs : Agrees s h) (a : Alg) (hb : s.busy = false) :
    Agrees (selectAlgorithm a s) { h with closed := none } :=
  { busy_iff := hs.busy_iff
    valid_iff := by simp
    opened_state := by simp [hs.opened_of_idle hb]
    closed_result := by simp }

theorem Agrees.openMessage {a : Alg} (ha : s.alg = some a) :
    Agrees (openMessage (initState a) s) { opened := some [], closed := none } :=
  { busy_iff := by simp
    valid_iff := by simp
    opened_state := by
      rintro m ⟨⟩
      exact ⟨rfl, a, ha, by simp, by simp⟩
    closed_result := by simp }

/-- ABSORB applies one more `update` to the fold over the bytes so far, and counts the byte. -/
theorem Agrees.absorbInto (hs : Agrees s h) {m : Message} (hm : h.opened = some m) (b : Byte) :
    Agrees (absorbInto (updateSelected s.config s.alg s.acc0 s.acc1 b) s) { h with opened := some (m ++ [b]) } := by
  obtain ⟨hc, a, ha, hacc, hlen⟩ := hs.opened_state m hm
  obtain ⟨h0, h1⟩ := Prod.ext_iff.mp hacc
  dsimp only at h0 h1
  exact
  { busy_iff := by simp [hs.busy_iff, hm]
    valid_iff := hs.valid_iff
    opened_state := by
      rintro _ ⟨⟩
      refine ⟨hc, a, ha, ?_, ?_⟩
      · simp only [absorbInto_acc0, absorbInto_acc1, absorbInto_config, ha, updateSelected_some, h0, h1,
          workingState_concat]
      · simp [hlen]
    closed_result := by simp [hc] }

/-- FINAL publishes `final` of the fold over the bytes, which is `compute`. -/
theorem Agrees.closeMessage (hs : Agrees s h) {m : Message} (hm : h.opened = some m) :
    Agrees (closeMessage (finalSelected s.config s.alg s.acc0 s.acc1 s.len) s)
      { opened := none, closed := some m } := by
  obtain ⟨-, a, ha, hacc, hlen⟩ := hs.opened_state m hm
  obtain ⟨h0, h1⟩ := Prod.ext_iff.mp hacc
  dsimp only at h0 h1
  exact
  { busy_iff := by simp
    valid_iff := by simp
    opened_state := by simp
    closed_result := by
      rintro _ ⟨⟩
      exact ⟨a, ha, by
        simp only [closeMessage_result, closeMessage_config, ha, finalSelected_some, h0, h1, hlen, compute,
          closingState]⟩ }

/-- A decoded command keeps the agreement: it is refused exactly where the history ignores it. -/
theorem Agrees.exec {t : State} {w : CommandWord} {i : Instr} (hs : Agrees s h) (hw : decode w = .legal i)
    (hi : exec i s = .next t) : Agrees t (h.next (.command w) s.alg) := by
  cases i with
  | nop =>
    cases hi
    rwa [History.next_nop hw]
  | select a =>
    obtain ⟨hn, -⟩ | ⟨_, -, hb, rfl⟩ | ⟨alg, -, hb, rfl⟩ := execSelect_cases hi
    · simpa [hn] using ofCode_isSome_of_decode_select hw
    · rw [History.next_select hw, if_pos (hs.busy_iff.mp hb)]
      exact hs.raiseProtocolError _
    · rw [History.next_select hw, if_neg (by simp [hs.opened_of_idle hb])]
      exact hs.selectAlgorithm alg hb
  | start =>
    obtain ⟨hn, rfl⟩ | ⟨a, ha, rfl⟩ := execStart_cases hi
    · rw [History.next_start hw, if_neg (by simp [hn])]
      exact hs.raiseProtocolError _
    · rw [History.next_start hw, if_pos (by simp [ha])]
      exact .openMessage ha
  | absorb b =>
    obtain ⟨hb, rfl⟩ | ⟨hb, rfl⟩ := execAbsorb_cases hi
    · rw [History.next_absorb_none hw _ (hs.opened_of_idle hb)]
      exact hs.raiseProtocolError _
    · obtain ⟨m, hm⟩ := hs.opened_of_busy hb
      rw [History.next_absorb_some hw _ hm]
      exact hs.absorbInto hm b
  | final =>
    obtain ⟨hb, rfl⟩ | ⟨hb, rfl⟩ := execFinal_cases hi
    · rw [History.next_final_none hw _ (hs.opened_of_idle hb)]
      exact hs.raiseProtocolError _
    · obtain ⟨m, hm⟩ := hs.opened_of_busy hb
      rw [History.next_final_some hw _ hm]
      exact hs.closeMessage hm

end

/-- Settles O51: by the cases of accepting an input, each with the history's own move. -/
theorem blockAgreesWithMessageHistory : Obligations.BlockAgreesWithMessageHistory := by
  intro x s t h hs hx
  obtain ⟨rfl, rfl⟩ | ⟨w, c, rfl, hw, rfl⟩ | ⟨w, i, rfl, hw, hi⟩ := acceptInput_cases hx
  · exact .resetEvent s
  · rw [History.next_illegal hw]
    exact hs.raiseProtocolError c
  · exact hs.exec hw hi

end Sys2Proof.Safety

/-! # Frames, ports and the first error

Which element each command can change (R20), the ports, and the stickiness of the first error. -/

namespace Sys2Proof.Machine

open Sys2Proof.Safety

/-- Only the two-register sums write ACC1 (R22). -/
theorem updateSelected_acc1 (c : Config) (alg : Option Alg) (a0 a1 : Word) (b : Byte)
    (h : (updateSelected c alg a0 a1 b).2 ≠ a1) :
    alg = some .fletcher16 ∨ alg = some .fletcher32 ∨ alg = some .adler32 := by
  cases alg with
  | none => exact absurd rfl h
  | some a =>
    cases a with
    | fletcher16 | fletcher32 | adler32 => simp
    | sum8 | sum16 | sum32 | xor8 | bsdsum | sysv | crc32a | crc32b => exact absurd rfl h

/-- Only the drain of CRC32A writes ACC0 at FINAL (R21). -/
theorem finalSelected_acc0 (c : Config) (alg : Option Alg) (a0 a1 : Word) (n : Nat)
    (h : (finalSelected c alg a0 a1 n).2 ≠ a0) : alg = some .crc32a := by
  cases alg with
  | none => exact absurd rfl h
  | some a =>
    cases a with
    | crc32a => rfl
    | sum8 | sum16 | sum32 | xor8 | bsdsum | sysv | fletcher16 | fletcher32 | adler32 | crc32b => exact absurd rfl h

/-- Once an error is recorded, raising another changes nothing (R31, R32). -/
theorem raiseProtocolError_of_err {s : State} (c : ProtocolError) (h : s.err = true) : raiseProtocolError c s = s := by
  cases s; simp_all [raiseProtocolError, recordError]

/-- The first error is recorded with its cause, and nothing else is written (R154). -/
theorem raiseProtocolError_of_no_err {s : State} (c : ProtocolError) (h : s.err = false) :
    raiseProtocolError c s = { s with err := true, cause := some c } := by
  simp [raiseProtocolError, recordError, h]

/-- Settles O18: by the cases of a command, a refused one writing ERR and CAUSE only where no error was recorded. -/
theorem elementsWrittenOnlyByTheirCommands : Obligations.ElementsWrittenOnlyByTheirCommands := by
  intro i s t h
  obtain ⟨c, rfl⟩ | ⟨-, rfl⟩ | ⟨a, alg, rfl, -, -, rfl⟩ | ⟨a, rfl, -, rfl⟩ | ⟨b, rfl, -, rfl⟩ | ⟨rfl, -, rfl⟩ :=
    exec_cases h
  · cases he : s.err with
    | true =>
      rw [raiseProtocolError_of_err c he]
      simp [he]
    | false => simp [raiseProtocolError_of_no_err c he]
  · simp
  · simp
  · simp
  · simpa using updateSelected_acc1 s.config s.alg s.acc0 s.acc1 b
  · simpa using finalSelected_acc0 s.config s.alg s.acc0 s.acc1 s.len

theorem polyPort_congr {s t : State} (h : t.alg = s.alg) : polyPort t = polyPort s := by
  simp only [polyPort, h]

/-- Settles O42: POLY reads ALG alone, and ALG is SELECT's to write. -/
theorem polyFollowsAlg : Obligations.PolyFollowsAlg := by
  refine ⟨fun s => ?_, fun i s t h hp => ?_⟩
  · cases ha : s.alg with
    | none => simp [polyPort, algCode, ha]
    | some a => cases a <;> simp [polyPort, algCode, Alg.code, ha, polyA, polyB]
  · obtain ⟨-, -, -, halg, -⟩ := elementsWrittenOnlyByTheirCommands i s t h
    exact halg fun ha => hp (polyPort_congr ha)

theorem exec_keeps_error {i : Instr} {s t : State} (he : s.err = true) (h : exec i s = .next t) :
    t.err = true ∧ t.cause = s.cause := by
  obtain ⟨-, -, -, -, -, -, -, herr, -⟩ := elementsWrittenOnlyByTheirCommands i s t h
  by_contra hne
  obtain ⟨hfalse, -⟩ := herr (by rw [he]; tauto)
  simp [he] at hfalse

theorem acceptInput_keeps_error {x : HostInput} {s t : State} (hx : x ≠ .reset) (he : s.err = true)
    (h : acceptInput x s = .next t) : t.err = true ∧ t.cause = s.cause := by
  obtain ⟨rfl, -⟩ | ⟨-, c, -, -, rfl⟩ | ⟨-, i, -, -, hi⟩ := acceptInput_cases h
  · exact absurd rfl hx
  · simp [he]
  · exact exec_keeps_error he hi

/-- Settles O44: by induction over the run, each input other than reset keeping ERR and CAUSE. -/
theorem firstErrorIsSticky : Obligations.FirstErrorIsSticky := by
  intro xs s t hreset he h
  refine runInputs_induction (R := fun s t => s.err = true → t.err = true ∧ t.cause = s.cause) xs
    (fun s he => ⟨he, rfl⟩) (fun x hx s u t hu ih he => ?_) h he
  obtain ⟨heu, hcu⟩ := acceptInput_keeps_error (fun hr => hreset (hr ▸ hx)) he hu
  rw [← hcu]
  exact ih heu

/-- Settles O11: each element and port is read off the reset state. -/
theorem resetStateElements : Obligations.ResetStateElements :=
  ⟨rfl, rfl, rfl, rfl, rfl, rfl, rfl, rfl, rfl, rfl, rfl, rfl⟩

/-- Settles O41: STATUS is CAUSE with the three flags appended as low bits, each append doubling the number. -/
theorem statusPacksTheFlags : Obligations.StatusPacksTheFlags := by
  intro s
  have hcat : statusPort s = (((causeCode s.cause).concat s.err).concat s.valid).concat s.busy := rfl
  rw [hcat, BitVec.toNat_concat, BitVec.toNat_concat, BitVec.toNat_concat]
  omega

end Sys2Proof.Machine

/-! # Runs

A run is total, keeps the parameters and composes over append (R46, R70). -/

namespace Sys2Proof.Machine

open Sys2Proof.Safety

/-- No command writes the parameters (R7, log 2). -/
theorem exec_config {i : Instr} {s t : State} (h : exec i s = .next t) : t.config = s.config := by
  obtain ⟨-, -, -, -, -, -, -, -, hconfig, -⟩ := elementsWrittenOnlyByTheirCommands i s t h
  exact hconfig

theorem acceptInput_config {x : HostInput} {s t : State} (h : acceptInput x s = .next t) : t.config = s.config := by
  obtain ⟨-, rfl⟩ | ⟨-, c, -, -, rfl⟩ | ⟨-, i, -, -, hi⟩ := acceptInput_cases h
  · exact resetEvent_config s
  · exact raiseProtocolError_config c s
  · exact exec_config hi

/-- Every run ends in a next state (R46, R70). -/
theorem runInputs_total (xs : List HostInput) (s : State) : ∃ t, runInputs xs s = .next t := by
  induction xs generalizing s with
  | nil => exact ⟨_, runInputs_nil s⟩
  | cons x xs ih =>
    obtain ⟨u, hu⟩ := acceptInput_total x s
    rw [runInputs_cons xs hu]
    exact ih u

theorem runInputs_inputs {xs : List HostInput} {s t : State} (h : runInputs xs s = .next t) : t.inputs = [] :=
  runInputs_induction (R := fun _ t => t.inputs = []) xs (fun _ => rfl) (fun _ _ _ _ _ _ ih => ih) h

theorem runInputs_config {xs : List HostInput} {s t : State} (h : runInputs xs s = .next t) : t.config = s.config :=
  runInputs_induction (R := fun s t => t.config = s.config) xs (fun _ => rfl)
    (fun _ _ _ _ _ hu ih => ih.trans (acceptInput_config hu)) h

/-- A longer run continues a shorter one; a run does not look at the inputs its first state holds. -/
theorem runInputs_append {xs : List HostInput} (ys : List HostInput) {s t : State} (h : runInputs xs s = .next t) :
    runInputs (xs ++ ys) s = runInputs ys t := by
  induction xs generalizing s with
  | nil => cases h; rfl
  | cons x xs ih =>
    obtain ⟨u, hu⟩ := acceptInput_total x s
    rw [runInputs_cons xs hu] at h
    rw [List.cons_append, runInputs_cons (xs ++ ys) hu]
    exact ih h

/-- Settles O10: totality, the final inputs and parameters, and composition, each by induction over the inputs. -/
theorem runsAreFoldsOfTheStep : Obligations.RunsAreFoldsOfTheStep := by
  refine ⟨fun xs s => ?_, fun _ ys _ _ h => runInputs_append ys h⟩
  obtain ⟨t, ht⟩ := runInputs_total xs s
  exact ⟨t, ht, runInputs_inputs ht, runInputs_config ht⟩

end Sys2Proof.Machine

/-! # The command word

The decoder and the encoder are inverse to each other on the legal words (R58, R59); the opcode map (R52) and the
decoder's refusals (R55 to R57) follow from what each kind of word decodes to. -/

namespace Sys2Proof

/-! The fields of a word (R51). -/

/-- A word is the packing of its three fields and of no others. -/
theorem packWord_eq_iff {op alg : BitVec 4} {data : Byte} {w : CommandWord} :
    packWord op alg data = w ↔ opField w = op ∧ algField w = alg ∧ dataField w = data := by
  constructor
  · rintro rfl
    simp
  · rintro ⟨rfl, rfl, rfl⟩
    simp

theorem packWord_and (op alg op' alg' : BitVec 4) (data data' : Byte) :
    packWord op alg data &&& packWord op' alg' data' = packWord (op &&& op') (alg &&& alg') (data &&& data') :=
  BitVec.and_append.trans (congrArg (· ++ (data &&& data')) BitVec.and_append)

/-- SELECT's row of R52: its mask leaves the field `alg` free. -/
theorem and_selectMask_iff {w : CommandWord} : w &&& 0xF0FF = 0x1000 ↔ opField w = 0x1 ∧ dataField w = 0 := by
  have hmask : (0xF0FF : CommandWord) = packWord (BitVec.allOnes 4) 0 (BitVec.allOnes 8) := rfl
  have hmatch : (0x1000 : CommandWord) = packWord 0x1 0 0 := rfl
  rw [← packWord_fields w, hmask, hmatch, packWord_and, eq_comm, packWord_eq_iff]
  simp only [opField_packWord, algField_packWord, dataField_packWord, BitVec.and_allOnes]
  simp

/-- ABSORB's row of R52: its mask leaves the field `data` free. -/
theorem and_absorbMask_iff {w : CommandWord} : w &&& 0xFF00 = 0x3000 ↔ opField w = 0x3 ∧ algField w = 0 := by
  have hmask : (0xFF00 : CommandWord) = packWord (BitVec.allOnes 4) (BitVec.allOnes 4) 0 := rfl
  have hmatch : (0x3000 : CommandWord) = packWord 0x3 0 0 := rfl
  rw [← packWord_fields w, hmask, hmatch, packWord_and, eq_comm, packWord_eq_iff]
  simp only [opField_packWord, algField_packWord, dataField_packWord, BitVec.and_allOnes]
  simp

/-! The four kinds of words: three that the decoder refuses, and the encodings. -/

/-- An opcode that no command has (R56). -/
def HasReservedOpcode (w : CommandWord) : Prop := 0x5 ≤ (opField w).toNat

/-- A non-zero field that the format of the word's command does not use (R55). -/
def HasNonZeroField (w : CommandWord) : Prop :=
  ((opField w = 0x0 ∨ opField w = 0x2 ∨ opField w = 0x4) ∧ (algField w ≠ 0 ∨ dataField w ≠ 0)) ∨
  (opField w = 0x1 ∧ dataField w ≠ 0) ∨ (opField w = 0x3 ∧ algField w ≠ 0)

/-- SELECT of a code that names no algorithm (R57). -/
def HasReservedAlgorithm (w : CommandWord) : Prop := opField w = 0x1 ∧ dataField w = 0 ∧ 0xB ≤ (algField w).toNat

theorem decode_of_hasReservedOpcode {w : CommandWord} (h : HasReservedOpcode w) :
    decode w = .illegal .reservedOpcode := if_pos h

theorem decode_of_hasNonZeroField {w : CommandWord} (h : HasNonZeroField w) : decode w = .illegal .nonZeroField := by
  simp only [HasNonZeroField, ne_eq, BitVec.ofNat_eq_ofNat] at h
  obtain ⟨hop | hop | hop, hfield⟩ | ⟨hop, hfield⟩ | ⟨hop, hfield⟩ := h
  all_goals simp [decode, hop, hfield]

theorem decode_of_hasReservedAlgorithm {w : CommandWord} (h : HasReservedAlgorithm w) :
    decode w = .illegal .reservedAlgorithm := by
  obtain ⟨hop, hdata, halg⟩ := h
  simp [decode, hop, hdata, halg]

/-- Settles O1: the fields of the encoding are those it packs, and SELECT's code passes the check for reserved codes. -/
theorem decodeInvertsEncode : Obligations.DecodeInvertsEncode := by
  intro i hi
  cases i with
  | nop | start | final => rfl
  | select a =>
    have ha : ¬ 0xB ≤ a.toNat := by
      have hle : a.toNat ≤ 0xA := of_decide_eq_true hi
      omega
    simp [encode, decode, ha]
  | absorb b => simp [encode, decode]

/-- Every word is of one of the four kinds. -/
theorem word_kinds (w : CommandWord) :
    HasReservedOpcode w ∨ HasNonZeroField w ∨ HasReservedAlgorithm w ∨ ∃ i, WellFormed i ∧ encode i = w := by
  by_cases hreserved : HasReservedOpcode w
  · exact .inl hreserved
  by_cases hzero : HasNonZeroField w
  · exact .inr (.inl hzero)
  by_cases hcode : HasReservedAlgorithm w
  · exact .inr (.inr (.inl hcode))
  refine .inr (.inr (.inr ?_))
  have hop : opField w = 0 ∨ opField w = 1 ∨ opField w = 2 ∨ opField w = 3 ∨ opField w = 4 := by
    unfold HasReservedOpcode at hreserved
    bv_omega
  unfold HasNonZeroField at hzero
  obtain hop | hop | hop | hop | hop := hop
  · exact ⟨.nop, rfl, packWord_eq_iff.mpr (by simp_all)⟩
  · have hdata : dataField w = 0 := by simp_all
    have halg : (algField w).toNat ≤ 0xA := by
      by_contra hgt
      exact hcode ⟨hop, hdata, by omega⟩
    exact ⟨.select (algField w), decide_eq_true halg, packWord_eq_iff.mpr ⟨hop, rfl, hdata⟩⟩
  · exact ⟨.start, rfl, packWord_eq_iff.mpr (by simp_all)⟩
  · exact ⟨.absorb (dataField w), rfl, packWord_eq_iff.mpr (by simp_all)⟩
  · exact ⟨.final, rfl, packWord_eq_iff.mpr (by simp_all)⟩

/-- Each kind of word with what it decodes to. -/
theorem decode_cases (w : CommandWord) :
    (HasReservedOpcode w ∧ decode w = .illegal .reservedOpcode) ∨
    (HasNonZeroField w ∧ decode w = .illegal .nonZeroField) ∨
    (HasReservedAlgorithm w ∧ decode w = .illegal .reservedAlgorithm) ∨
    (∃ i, WellFormed i ∧ encode i = w ∧ decode w = .legal i) := by
  obtain h | h | h | ⟨i, hi, rfl⟩ := word_kinds w
  · exact .inl ⟨h, decode_of_hasReservedOpcode h⟩
  · exact .inr (.inl ⟨h, decode_of_hasNonZeroField h⟩)
  · exact .inr (.inr (.inl ⟨h, decode_of_hasReservedAlgorithm h⟩))
  · exact .inr (.inr (.inr ⟨i, hi, rfl, decodeInvertsEncode i hi⟩))

/-- Settles O2: of the four kinds of words only the encodings decode to a command, and each to the one it encodes. -/
theorem decodedWordIsItsEncoding : Obligations.DecodedWordIsItsEncoding := by
  intro w i h
  obtain ⟨-, hw⟩ | ⟨-, hw⟩ | ⟨-, hw⟩ | ⟨j, hj, hjw, hw⟩ := decode_cases w
  case inr.inr.inr =>
    obtain rfl : j = i := by simpa [hw] using h
    exact ⟨hj, hjw⟩
  all_goals simp [hw] at h

theorem decode_eq_legal_iff {w : CommandWord} {i : Instr} : decode w = .legal i ↔ WellFormed i ∧ encode i = w := by
  constructor
  · exact decodedWordIsItsEncoding w i
  · rintro ⟨hi, rfl⟩
    exact decodeInvertsEncode i hi

/-! The decoder's refusals. -/

theorem decode_eq_reservedOpcode_iff {w : CommandWord} :
    decode w = .illegal .reservedOpcode ↔ HasReservedOpcode w := by
  refine ⟨fun h => ?_, decode_of_hasReservedOpcode⟩
  obtain ⟨hkind, -⟩ | ⟨-, hw⟩ | ⟨-, hw⟩ | ⟨i, -, -, hw⟩ := decode_cases w
  · exact hkind
  all_goals simp [hw] at h

theorem decode_eq_nonZeroField_iff {w : CommandWord} : decode w = .illegal .nonZeroField ↔ HasNonZeroField w := by
  refine ⟨fun h => ?_, decode_of_hasNonZeroField⟩
  obtain ⟨-, hw⟩ | ⟨hkind, -⟩ | ⟨-, hw⟩ | ⟨i, -, -, hw⟩ := decode_cases w
  case inr.inl => exact hkind
  all_goals simp [hw] at h

theorem decode_eq_reservedAlgorithm_iff {w : CommandWord} :
    decode w = .illegal .reservedAlgorithm ↔ HasReservedAlgorithm w := by
  refine ⟨fun h => ?_, decode_of_hasReservedAlgorithm⟩
  obtain ⟨-, hw⟩ | ⟨-, hw⟩ | ⟨hkind, -⟩ | ⟨i, -, -, hw⟩ := decode_cases w
  case inr.inr.inl => exact hkind
  all_goals simp [hw] at h

/-- The decoder gives the causes 1, 2 and 3 only (R59). -/
theorem decode_causes {w : CommandWord} {c : ProtocolError} (h : decode w = .illegal c) :
    c = .reservedOpcode ∨ c = .nonZeroField ∨ c = .reservedAlgorithm := by
  obtain ⟨-, hw⟩ | ⟨-, hw⟩ | ⟨-, hw⟩ | ⟨i, -, -, hw⟩ := decode_cases w
  · exact .inl (by simpa [hw] using h.symm)
  · exact .inr (.inl (by simpa [hw] using h.symm))
  · exact .inr (.inr (by simpa [hw] using h.symm))
  · simp [hw] at h

/-- Settles O4: each refusal is one kind of word, and the fields are the digits of the word's number. -/
theorem decoderRefusals : Obligations.DecoderRefusals := by
  intro w
  refine ⟨?_, ?_, ?_, fun c => decode_causes⟩
  · rw [decode_eq_reservedOpcode_iff, HasReservedOpcode, opField_toNat]
  · rw [decode_eq_nonZeroField_iff]
    simp only [HasNonZeroField, ne_eq, BitVec.toNat_eq, opField_toNat, algField_toNat, dataField_toNat,
      BitVec.ofNat_eq_ofNat, BitVec.toNat_ofNat, Nat.reducePow, Nat.reduceMod, Nat.zero_mod]
  · rw [decode_eq_reservedAlgorithm_iff]
    simp only [HasReservedAlgorithm, BitVec.toNat_eq, opField_toNat, algField_toNat, dataField_toNat,
      BitVec.ofNat_eq_ofNat, BitVec.toNat_ofNat, Nat.reducePow, Nat.reduceMod, Nat.zero_mod]

/-! The 270 legal words. -/

/-- The well-formed commands: three without an operand, SELECT of each algorithm, ABSORB of each byte (R52). -/
def legalCommands : List Instr :=
  [.nop, .start, .final] ++ Machine.allAlgs.map (fun a => Instr.select a.code) ++
    (List.finRange (2 ^ 8)).map (fun k => Instr.absorb (BitVec.ofFin k))

theorem mem_legalCommands {i : Instr} : i ∈ legalCommands ↔ WellFormed i := by
  cases i with
  | nop | start | final => simp [legalCommands, WellFormed, Instr.wellFormed]
  | absorb b =>
    have hb : ∃ k, BitVec.ofFin k = b := ⟨b.toFin, rfl⟩
    simp [legalCommands, WellFormed, Instr.wellFormed, hb]
  | select a =>
    have hmem : .select a ∈ legalCommands ↔ ∃ alg ∈ Machine.allAlgs, alg.code = a := by simp [legalCommands]
    rw [hmem]
    constructor
    · rintro ⟨alg, -, rfl⟩
      exact code_wellFormed alg
    · intro ha
      obtain ⟨alg, halg⟩ := Option.isSome_iff_exists.mp ((ofCode_isSome a).trans ha)
      exact ⟨alg, by cases alg <;> decide, code_of_ofCode halg⟩

theorem length_legalCommands : legalCommands.length = 270 := by
  simp [legalCommands, Machine.allAlgs]

theorem code_injective : Function.Injective Alg.code := fun a b h => by
  simpa using congrArg Alg.ofCode? h

theorem nodup_legalCommands : legalCommands.Nodup := by
  have hselect : (Machine.allAlgs.map fun a => Instr.select a.code).Nodup :=
    List.Nodup.map (fun a b h => code_injective (by simpa using h)) (by decide)
  have habsorb : ((List.finRange (2 ^ 8)).map fun k => Instr.absorb (.ofFin k)).Nodup :=
    List.Nodup.map (fun a b h => by simpa using h) (List.nodup_finRange _)
  simp +contextual [legalCommands, List.nodup_append, hselect, habsorb]

/-- Different commands have different words, since the decoder tells them apart. -/
theorem nodup_legalWords : (legalCommands.map encode).Nodup := by
  refine List.Nodup.map_on (fun i hi j hj h => ?_) nodup_legalCommands
  have hdecode := congrArg decode h
  rw [decodeInvertsEncode i (mem_legalCommands.mp hi), decodeInvertsEncode j (mem_legalCommands.mp hj)] at hdecode
  simpa using hdecode

theorem mem_legalWords {w : CommandWord} : w ∈ legalCommands.map encode ↔ ∃ i, decode w = .legal i := by
  simp only [List.mem_map, mem_legalCommands, decode_eq_legal_iff]

/-- Settles O3: a word decodes to a command exactly when it is its encoding, whose fields the row's mask and match fix;
the legal words are the encodings of the legal commands. -/
theorem opcodeMapSelectsCommands : Obligations.OpcodeMapSelectsCommands := by
  have hfull (w : CommandWord) : w &&& 0xFFFF = w := BitVec.and_allOnes
  refine ⟨fun w => ⟨?nop, fun a => ?select, ?start, fun b => ?absorb, ?final, decode_of_hasReservedOpcode⟩,
    legalCommands.map encode, nodup_legalWords, by rw [List.length_map, length_legalCommands], fun w => mem_legalWords⟩
  case nop | start | final =>
    rw [decode_eq_legal_iff, hfull, eq_comm (a := w)]
    exact and_iff_right rfl
  case select =>
    rw [decode_eq_legal_iff, and_selectMask_iff, encode, packWord_eq_iff]
    have hwf : WellFormed (.select a) ↔ a.toNat ≤ 0xA := decide_eq_true_iff
    rw [hwf]
    constructor
    · rintro ⟨hle, hop, halg, hdata⟩
      exact ⟨⟨hop, hdata⟩, halg, hle⟩
    · rintro ⟨⟨hop, hdata⟩, halg, hle⟩
      exact ⟨hle, hop, halg, hdata⟩
  case absorb =>
    rw [decode_eq_legal_iff, and_absorbMask_iff, encode, packWord_eq_iff, and_assoc]
    exact and_iff_right rfl

/-- Settles O5: the decoder and the codes are evaluated on each word of the table. -/
theorem selectWordsNameTheAlgorithms : Obligations.SelectWordsNameTheAlgorithms :=
  ⟨by decide, by decide, by decide, by decide, by decide⟩

end Sys2Proof

/-! # Well-formed sequences

A sequence that the grammar of R62 admits is executed without a protocol error. -/

namespace Sys2Proof.Safety

open Sys2Proof.Machine

theorem wellFormed_of_wellFormedSequence {selected opened : Bool} {i : Instr} {is : List Instr}
    (h : wellFormedSequence selected opened (i :: is) = true) : WellFormed i := by
  cases i with
  | nop | start | absorb | final => rfl
  | select a =>
    rw [wellFormedSequence, Bool.and_eq_true, Bool.and_eq_true] at h
    obtain ⟨⟨-, ha⟩, -⟩ := h
    exact ha

/-- The grammar's reading of a state: whether an algorithm is selected and whether a message is open. -/
def Admits (s : State) (is : List Instr) : Prop := wellFormedSequence s.alg.isSome s.busy is = true

/-- A command that the grammar admits in a state completes there, records no error, and leads to a state in which the
grammar admits the rest. -/
theorem exec_of_admits {i : Instr} {is : List Instr} {s t : State} (h : Admits s (i :: is))
    (hi : exec i s = .next t) : t.err = s.err ∧ t.cause = s.cause ∧ Admits t is := by
  unfold Admits at h
  cases i with
  | nop =>
    cases hi
    exact ⟨rfl, rfl, by simpa [Admits, wellFormedSequence] using h⟩
  | select a =>
    obtain ⟨⟨hb, ha⟩, his⟩ : (s.busy = false ∧ (Instr.select a).wellFormed = true) ∧
      wellFormedSequence true false is = true := by simpa [wellFormedSequence] using h
    obtain ⟨hn, -⟩ | ⟨_, -, hb', -⟩ | ⟨alg, -, -, rfl⟩ := execSelect_cases hi
    · simp [← ofCode_isSome, hn] at ha
    · simp [hb] at hb'
    · exact ⟨rfl, rfl, by simpa [Admits, hb] using his⟩
  | start =>
    obtain ⟨⟨hsel, -⟩, his⟩ : (s.alg.isSome = true ∧ s.busy = false) ∧
      wellFormedSequence s.alg.isSome true is = true := by simpa [wellFormedSequence] using h
    obtain ⟨hn, -⟩ | ⟨a, -, rfl⟩ := execStart_cases hi
    · simp [hn] at hsel
    · exact ⟨rfl, rfl, by simpa [Admits] using his⟩
  | absorb b =>
    obtain ⟨hb, his⟩ : s.busy = true ∧ wellFormedSequence s.alg.isSome true is = true := by
      simpa [wellFormedSequence] using h
    obtain ⟨hb', -⟩ | ⟨-, rfl⟩ := execAbsorb_cases hi
    · simp [hb] at hb'
    · exact ⟨rfl, rfl, by simpa [Admits, hb] using his⟩
  | final =>
    obtain ⟨hb, his⟩ : s.busy = true ∧ wellFormedSequence s.alg.isSome false is = true := by
      simpa [wellFormedSequence] using h
    obtain ⟨hb', -⟩ | ⟨-, rfl⟩ := execFinal_cases hi
    · simp [hb] at hb'
    · exact ⟨rfl, rfl, by simpa [Admits] using his⟩

/-- A run's first command is its meaning, and the rest is a run from there. -/
theorem runCommands_cons {i : Instr} {s u : State} (is : List Instr) (hwf : WellFormed i)
    (hi : exec i s = .next u) : runCommands (i :: is) s = runCommands is u := by
  have haccept : acceptInput (.command (encode i)) s = .next u :=
    (acceptWord_legal s (decodeInvertsEncode i hwf)).trans hi
  exact runInputs_cons (presented is) haccept

theorem runCommands_of_admits {is : List Instr} {s t : State} (h : Admits s is) (hrun : runCommands is s = .next t) :
    t.err = s.err ∧ t.cause = s.cause ∧ t.busy = false := by
  induction is generalizing s with
  | nil =>
    cases hrun
    exact ⟨rfl, rfl, by simpa [Admits, wellFormedSequence] using h⟩
  | cons i is ih =>
    obtain ⟨u, hu⟩ := exec_total i s
    obtain ⟨herr, hcause, hrest⟩ := exec_of_admits h hu
    rw [runCommands_cons is (wellFormed_of_wellFormedSequence h) hu] at hrun
    rw [← herr, ← hcause]
    exact ih hrest hrun

/-- Settles O52: by induction over the sequence, the grammar following the selected algorithm and the open message. -/
theorem wellFormedSequencesNeverFail : Obligations.WellFormedSequencesNeverFail := by
  intro is s t hb hwf hrun
  exact runCommands_of_admits (by rwa [Admits, hb]) hrun

end Sys2Proof.Safety

/-! # The five commands

What each command answers where it is admitted and where it is refused (R70 to R75), the words of a command that the
decoder refuses (R55), and the moves between the phases (R76). -/

namespace Sys2Proof.Machine

/-! One equation per command and outcome of its admission check. -/

section
variable {s : State}

theorem exec_select_of_idle {a : BitVec 4} {alg : Alg} (ha : Alg.ofCode? a = some alg) (hb : s.busy = false) :
    exec (.select a) s = .next (selectAlgorithm alg s) := by
  simp [exec, execSelect, ha, hb]

theorem exec_select_of_busy {a : BitVec 4} {alg : Alg} (ha : Alg.ofCode? a = some alg) (hb : s.busy = true) :
    exec (.select a) s = .next (raiseProtocolError .selectWhileBusy s) := by
  simp [exec, execSelect, ha, hb]

theorem exec_start_of_selected {a : Alg} (ha : s.alg = some a) :
    exec .start s = .next (openMessage (initState a) s) := by
  simp [exec, execStart, ha]

theorem exec_start_of_unselected (ha : s.alg = none) :
    exec .start s = .next (raiseProtocolError .startNoAlgorithm s) := by
  simp [exec, execStart, ha]

theorem exec_absorb_of_busy (b : Byte) (hb : s.busy = true) :
    exec (.absorb b) s = .next (absorbInto (updateSelected s.config s.alg s.acc0 s.acc1 b) s) := by
  simp [exec, execAbsorb, hb]

theorem exec_absorb_of_idle (b : Byte) (hb : s.busy = false) :
    exec (.absorb b) s = .next (raiseProtocolError .absorbWhileIdle s) := by
  simp [exec, execAbsorb, hb]

theorem exec_final_of_busy (hb : s.busy = true) :
    exec .final s = .next (closeMessage (finalSelected s.config s.alg s.acc0 s.acc1 s.len) s) := by
  simp [exec, execFinal, hb]

theorem exec_final_of_idle (hb : s.busy = false) :
    exec .final s = .next (raiseProtocolError .finalWhileIdle s) := by
  simp [exec, execFinal, hb]

end

/-! The codes SELECT takes, and the words the decoder refuses. -/

theorem ofCode_of_le {a : BitVec 4} (ha : a.toNat ≤ 0xA) : ∃ alg, Alg.ofCode? a = some alg :=
  Option.isSome_iff_exists.mp ((ofCode_isSome a).trans (decide_eq_true ha))

theorem acceptWord_of_hasNonZeroField {w : CommandWord} (s : State) (h : HasNonZeroField w) :
    acceptWord w s = .next (raiseProtocolError .nonZeroField s) :=
  acceptWord_illegal s (decode_of_hasNonZeroField h)

/-- Another word with the opcode of NOP, START or FINAL has a non-zero field, since these commands have one word each. -/
theorem hasNonZeroField_of_ne {w : CommandWord} (op : BitVec 4) (hop : (opField w).toNat = op.toNat)
    (hcommand : op = 0x0 ∨ op = 0x2 ∨ op = 0x4) (hne : w ≠ packWord op 0 0) : HasNonZeroField w := by
  obtain rfl : opField w = op := BitVec.eq_of_toNat_eq hop
  refine .inl ⟨hcommand, not_and_or.mp ?_⟩
  rintro ⟨halg, hdata⟩
  exact hne (packWord_eq_iff.mpr ⟨rfl, halg, hdata⟩).symm

/-- Settles O7: a word's acceptance is the decoder's refusal or the command's meaning, which the check decides. -/
theorem admissionChecks : Obligations.AdmissionChecks := by
  intro w s
  refine ⟨fun c hw => acceptWord_illegal s hw, fun a hw hb => ?select, fun hw ha => ?start, fun b hw hb => ?absorb,
    fun hw hb => ?final, fun i hw => acceptWord_legal s hw, acceptInput_total (.command w) s⟩
  all_goals rw [acceptWord_legal s hw]
  case select =>
    obtain ⟨alg, ha⟩ := Option.isSome_iff_exists.mp (ofCode_isSome_of_decode_select hw)
    exact exec_select_of_busy ha hb
  case start => exact exec_start_of_unselected ha
  case absorb => exact exec_absorb_of_idle b hb
  case final => exact exec_final_of_idle hb

/-- Settles O6: the step takes the input and accepts its word, which is a command's. -/
theorem stepRunsDecodedCommand : Obligations.StepRunsDecodedCommand := fun _ _ _ _ hinputs hw =>
  (step_input hinputs).trans (acceptWord_legal _ hw)

/-- Settles O13: NOP's meaning is the identity, and its one word is all zero. -/
theorem nopCompletesUnchanged : Obligations.NopCompletesUnchanged :=
  ⟨fun _ => rfl, rfl, fun _ s hop hne =>
    acceptWord_of_hasNonZeroField s (hasNonZeroField_of_ne 0x0 hop (by decide) hne)⟩

/-- Settles O14: a code of at most 0xA names an algorithm, and the decoder refuses the others and any data. -/
theorem selectCompletesWhileIdle : Obligations.SelectCompletesWhileIdle := by
  refine ⟨fun a s hle hb => ?_, fun a s hle hb => ?_, fun a s hreserved => ?_, fun w s hop hdata => ?_⟩
  · obtain ⟨alg, ha⟩ := ofCode_of_le hle
    exact ⟨alg, code_of_ofCode ha, exec_select_of_idle ha hb⟩
  · obtain ⟨alg, ha⟩ := ofCode_of_le hle
    exact exec_select_of_busy ha hb
  · have hkind : HasReservedAlgorithm (encode (.select a)) := by simpa [HasReservedAlgorithm, encode] using hreserved
    exact acceptWord_illegal s (decode_of_hasReservedAlgorithm hkind)
  · exact acceptWord_of_hasNonZeroField s (.inr (.inl ⟨BitVec.eq_of_toNat_eq hop, hdata⟩))

/-- Settles O15: START does not look at BUSY, and the values of `init` are read off for each algorithm. -/
theorem startLoadsInitialState : Obligations.StartLoadsInitialState := by
  refine ⟨fun a s ha => ?_, fun s => exec_start_of_unselected, fun w s hop hne => ?_⟩
  · rw [exec_start_of_selected ha]
    cases a <;> rfl
  · exact acceptWord_of_hasNonZeroField s (hasNonZeroField_of_ne 0x2 hop (by decide) hne)

/-- Settles O16: the frame is that of ABSORB's writes, and only the two-register sums give ACC1 a new value. -/
theorem absorbCompletesInOpenMessage : Obligations.AbsorbCompletesInOpenMessage := by
  refine ⟨fun b s hb => ⟨_, exec_absorb_of_busy b hb, rfl, rfl, rfl, rfl, rfl, rfl, rfl, rfl, rfl, fun a ha => ?_,
    fun h16 h32 hadler => ?_⟩, fun b s => exec_absorb_of_idle b, fun w s hop halg => ?_⟩
  · simp [ha]
  · by_contra hacc1
    obtain h | h | h := updateSelected_acc1 s.config s.alg s.acc0 s.acc1 b hacc1
    · exact h16 h
    · exact h32 h
    · exact hadler h
  · exact acceptWord_of_hasNonZeroField s (.inr (.inr ⟨BitVec.eq_of_toNat_eq hop, halg⟩))

/-- Settles O17: the frame is that of FINAL's writes, and only the drain of CRC32A gives ACC0 a new value. -/
theorem finalPublishesAndCloses : Obligations.FinalPublishesAndCloses := by
  refine ⟨fun s hb => ⟨_, exec_final_of_busy hb, rfl, rfl, rfl, rfl, rfl, rfl, rfl, rfl, rfl, fun a ha => ?_,
    fun hcrc => ?_⟩, fun s => exec_final_of_idle, fun w s hop hne => ?_⟩
  · simp [ha]
  · by_contra hacc0
    exact hcrc (finalSelected_acc0 s.config s.alg s.acc0 s.acc1 s.len hacc0)
  · exact acceptWord_of_hasNonZeroField s (hasNonZeroField_of_ne 0x4 hop (by decide) hne)

/-! The moves of R76: a command's one next state, seen in ALG and BUSY. -/

section
variable {s t : State}

/-- A command has at most one next state. -/
theorem eq_of_exec {i : Instr} {u : State} (h : exec i s = .next t) (hu : exec i s = .next u) : t = u := by
  rw [h] at hu
  exact Host.Outcome.next.inj hu

theorem select_keeps_idle {a : BitVec 4} (hle : a.toNat ≤ 0xA) (hb : s.busy = false)
    (h : exec (.select a) s = .next t) : algCode t.alg = a ∧ t.alg ≠ none ∧ t.busy = false := by
  obtain ⟨alg, ha⟩ := ofCode_of_le hle
  obtain rfl := eq_of_exec h (exec_select_of_idle ha hb)
  exact ⟨code_of_ofCode ha, by simp, hb⟩

theorem select_refused_while_busy {a : BitVec 4} (hle : a.toNat ≤ 0xA) (hb : s.busy = true)
    (h : exec (.select a) s = .next t) : t = raiseProtocolError .selectWhileBusy s := by
  obtain ⟨alg, ha⟩ := ofCode_of_le hle
  exact eq_of_exec h (exec_select_of_busy ha hb)

theorem start_opens (hsel : s.alg ≠ none) (h : exec .start s = .next t) : t.alg = s.alg ∧ t.busy = true := by
  obtain ⟨a, ha⟩ := Option.ne_none_iff_exists'.mp hsel
  obtain rfl := eq_of_exec h (exec_start_of_selected ha)
  exact ⟨rfl, rfl⟩

theorem absorb_keeps_open {b : Byte} (hb : s.busy = true) (h : exec (.absorb b) s = .next t) :
    t.alg = s.alg ∧ t.busy = true := by
  obtain rfl := eq_of_exec h (exec_absorb_of_busy b hb)
  exact ⟨rfl, hb⟩

theorem final_closes (hb : s.busy = true) (h : exec .final s = .next t) : t.alg = s.alg ∧ t.busy = false := by
  obtain rfl := eq_of_exec h (exec_final_of_busy hb)
  exact ⟨rfl, rfl⟩

end

/-- Settles O19: the fifteen cells, phase by phase. -/
theorem phasesMoveAsTheTableSays : Obligations.PhasesMoveAsTheTableSays := by
  refine fun s t => ⟨fun hnone hb => ?unselected, fun hsel hb => ?idle, fun hsel hb => ?opened, fun c => ⟨rfl, rfl⟩⟩
  case unselected =>
    exact ⟨fun a h hle => (select_keeps_idle hle hb h).2, fun h => eq_of_exec h (exec_start_of_unselected hnone),
      fun b h => eq_of_exec h (exec_absorb_of_idle b hb), fun h => eq_of_exec h (exec_final_of_idle hb),
      fun h => eq_of_exec h rfl⟩
  case idle =>
    exact ⟨fun a h hle => select_keeps_idle hle hb h, fun h => start_opens hsel h,
      fun b h => eq_of_exec h (exec_absorb_of_idle b hb), fun h => eq_of_exec h (exec_final_of_idle hb),
      fun h => eq_of_exec h rfl⟩
  case opened =>
    exact ⟨fun a h hle => select_refused_while_busy hle hb h, fun h => start_opens hsel h,
      fun b h => absorb_keeps_open hb h, fun h => final_closes hb h, fun h => eq_of_exec h rfl⟩

end Sys2Proof.Machine

/-! # The running sums

The updates of the nine running sums in numbers, what their registers hold after a whole message (R80 to R109), what
FINAL publishes, and how far a checksum reaches (R110 to R112). -/

namespace Sys2Proof.Machine

open Sys2Proof.Safety

/-! ABSORB and FINAL under a selected algorithm. -/

section
variable {s : State} {a : Alg}

theorem exec_absorb_of_selected (b : Byte) (hb : s.busy = true) (ha : s.alg = some a) :
    exec (.absorb b) s = .next (absorbInto (updateState s.config a s.acc0 s.acc1 b) s) := by
  rw [exec_absorb_of_busy b hb, ha, updateSelected_some]

theorem exec_final_of_selected (hb : s.busy = true) (ha : s.alg = some a) :
    exec .final s = .next (closeMessage (finalState s.config a s.acc0 s.acc1 s.len) s) := by
  rw [exec_final_of_busy hb, ha, finalSelected_some]

/-- FINAL where the algorithm leaves ACC0 as it is. -/
theorem exec_final_of_result {res : Word} (hb : s.busy = true) (ha : s.alg = some a)
    (hres : finalState s.config a s.acc0 s.acc1 s.len = (res, s.acc0)) :
    exec .final s = .next { s with result := res, busy := false, valid := true } := by
  rw [exec_final_of_selected hb ha, hres]
  rfl

end

/-! Bounds over a message, and the checksum of the empty one. -/

/-- Settles O38: by the bounds of each algorithm's `init` and `update`. -/
theorem updatesKeepTheBounds : Obligations.UpdatesKeepTheBounds :=
  ⟨initState_inBounds, fun _ _ _ _ b h => updateState_inBounds b h⟩

/-- The working registers stay within the bounds of R23 over every message. -/
theorem workingState_inBounds (c : Config) (a : Alg) (m : Message) :
    inBounds c a (workingState c a m).1 (workingState c a m).2 := by
  induction m using List.reverseRecOn with
  | nil => exact initState_inBounds c a
  | append_singleton m b ih =>
    rw [workingState_concat]
    exact updateState_inBounds b ih

/-- `final` on the initial state with no byte counted: ADLER32 starts from 1, and of the complements only that of
CRC32B's all-ones register is 0. -/
theorem finalState_initState (c : Config) (a : Alg) :
    (finalState c a (initState a).1 (initState a).2 0).1 = (match a with
      | .adler32 => 0x00000001
      | .crc32a => 0xFFFFFFFF
      | .sum8 | .sum16 | .sum32 | .xor8 | .bsdsum | .sysv | .fletcher16 | .fletcher32 | .crc32b => 0x00000000) := by
  cases a with
  | crc32a => simp [finalState, crc32aFinal, crc32aDrain, initState, crc32aInit, complement32]
  | sum8 | sum16 | sum32 | xor8 | bsdsum | sysv | fletcher16 | fletcher32 | adler32 | crc32b => rfl

/-- START and FINAL from any state with an algorithm selected, open message or not. -/
theorem runCommands_start_final {s : State} {a : Alg} (ha : s.alg = some a) :
    runCommands [.start, .final] s = .next
      { closeMessage (finalState s.config a (initState a).1 (initState a).2 0) (openMessage (initState a) s) with
        inputs := [] } := by
  have hfinal : exec .final (openMessage (initState a) s) = .next
      (closeMessage (finalState s.config a (initState a).1 (initState a).2 0) (openMessage (initState a) s)) :=
    exec_final_of_selected rfl ha
  rw [runCommands_cons [.final] rfl (exec_start_of_selected ha), runCommands_cons [] rfl hfinal]
  rfl

/-- Settles O36: the two commands publish `final` of the initial state. -/
theorem emptyMessageIdentities : Obligations.EmptyMessageIdentities := fun a s ha =>
  ⟨_, runCommands_start_final ha, rfl, ha, finalState_initState s.config a⟩

/-! The sums of one masked register: SUM8, SUM16, SUM32 and SYSV. -/

theorem narrow_mod_toNat (n : Nat) {M : Nat} (hpos : 0 < M) (hfits : M ≤ 2 ^ 32) : (narrow (n % M)).toNat = n % M :=
  narrow_toNat _ ((Nat.mod_lt n hpos).trans_le hfits)

theorem maskedSum_eq (k : Nat) (a0 : Word) (b : Byte) : maskedSum k a0 b = narrow ((a0.toNat + b.toNat) % 2 ^ k) := by
  rw [maskedSum, maskLow_eq_mod, byteValue]

/-- The algorithm starts from 0 and adds each byte to ACC0, keeping `k` bits. -/
structure IsMaskedSum (c : Config) (a : Alg) (k : Nat) : Prop where
  init : initState a = (0, 0)
  update : ∀ a0 a1 b, updateState c a a0 a1 b = (maskedSum k a0 b, a1)
  width : k ≤ 32

theorem isMaskedSum_sum8 (c : Config) : IsMaskedSum c .sum8 8 := ⟨rfl, fun _ _ _ => rfl, by decide⟩

theorem isMaskedSum_sum16 (c : Config) : IsMaskedSum c .sum16 16 := ⟨rfl, fun _ _ _ => rfl, by decide⟩

theorem isMaskedSum_sum32 (c : Config) : IsMaskedSum c .sum32 c.sum32W.bits :=
  ⟨rfl, fun _ _ _ => rfl, by cases c.sum32W <;> decide⟩

/-- Reducing mod 2^32 keeps 32 bits (R99). -/
theorem isMaskedSum_sysv (c : Config) : IsMaskedSum c .sysv 32 :=
  ⟨rfl, fun a0 _ b => by rw [maskedSum_eq]; rfl, le_rfl⟩

theorem IsMaskedSum.exec_absorb {s : State} {a : Alg} {k : Nat} (h : IsMaskedSum s.config a k) (b : Byte)
    (hb : s.busy = true) (ha : s.alg = some a) :
    exec (.absorb b) s = .next { s with acc0 := BitVec.ofNat 32 ((s.acc0.toNat + b.toNat) % 2 ^ k)
                                        len := (s.len + 1) % 2 ^ s.config.lenW } := by
  rw [exec_absorb_of_selected b hb ha, h.update, maskedSum_eq]
  rfl

/-- After a whole message ACC0 is the sum of its bytes, reduced. -/
theorem IsMaskedSum.workingState_toNat {c : Config} {a : Alg} {k : Nat} (h : IsMaskedSum c a k) (m : Message) :
    (workingState c a m).1.toNat = (m.map BitVec.toNat).sum % 2 ^ k := by
  induction m using List.reverseRecOn with
  | nil => simp [h.init]
  | append_singleton m b ih =>
    rw [workingState_concat, h.update, maskedSum_eq, ih,
      narrow_mod_toNat _ (Nat.two_pow_pos k) (Nat.pow_le_pow_right (by decide) h.width)]
    simp

/-- Settles O20: both are sums of one masked register. -/
theorem maskedSumsWrap : Obligations.MaskedSumsWrap :=
  ⟨fun b s => (isMaskedSum_sum8 s.config).exec_absorb b, fun b s => (isMaskedSum_sum16 s.config).exec_absorb b,
    fun c m => ⟨(isMaskedSum_sum8 c).workingState_toNat m, (isMaskedSum_sum16 c).workingState_toNat m⟩⟩

theorem compute_sum32_toNat (c : Config) (m : Message) :
    (compute c .sum32 m).toNat = (m.map BitVec.toNat).sum % 2 ^ c.sum32W.bits :=
  (isMaskedSum_sum32 c).workingState_toNat m

/-- A byte sum within the mask is its own checksum. -/
theorem compute_sum32_of_lt {c : Config} {m : Message} {k : Nat} (hk : k ≤ c.sum32W.bits)
    (hsum : (m.map BitVec.toNat).sum < 2 ^ k) : (compute c .sum32 m).toNat = (m.map BitVec.toNat).sum := by
  rw [compute_sum32_toNat, Nat.mod_eq_of_lt (hsum.trans_le (Nat.pow_le_pow_right (by decide) hk))]

theorem sixteen_le_bits (w : Sum32Width) : 16 ≤ w.bits := by cases w <;> decide

/-- Settles O21: the widths differ only in how many bits of the byte sum they keep. -/
theorem sum32KeepsItsMaskWidth : Obligations.Sum32KeepsItsMaskWidth := by
  refine ⟨fun b s => (isMaskedSum_sum32 s.config).exec_absorb b, fun c c' m hsum => ?_, fun c c' m hc hc' hsum => ?_,
    fun c m hc => ?_⟩ <;> apply BitVec.eq_of_toNat_eq
  · rw [compute_sum32_of_lt (sixteen_le_bits _) hsum, compute_sum32_of_lt (sixteen_le_bits _) hsum]
  · have h24 : 24 ≤ c.sum32W.bits := by rw [hc]; decide
    have h32 : 24 ≤ c'.sum32W.bits := by rw [hc']; decide
    rw [compute_sum32_of_lt h24 hsum, compute_sum32_of_lt h32 hsum]
  · rw [compute_sum32_toNat, hc]
    exact ((isMaskedSum_sum16 c).workingState_toNat m).symm

/-! The folds of SYSV. -/

/-- R100 in numbers: the halves of the sum's low 32 bits are added, then the carry of that addition. -/
theorem sysvFold_eq (n : Nat) :
    sysvFold n = (n % 65536 + n / 65536 % 65536) % 65536 + (n % 65536 + n / 65536 % 65536) / 65536 := by
  have hlow (v : Nat) : v &&& 0xFFFF = v % 65536 := Nat.and_two_pow_sub_one_eq_mod v 16
  simp only [sysvFold, hlow, Nat.shiftRight_eq_div_pow, Nat.reducePow]

theorem sysvFold_lt (n : Nat) : sysvFold n < 2 ^ 16 := by
  rw [sysvFold_eq]
  omega

/-- The folds read the low 32 bits only, so a sum kept mod 2^32 folds as the unbounded one. -/
theorem sysvFold_mod (n : Nat) : sysvFold (n % 2 ^ 32) = sysvFold n := by
  have hlow : n % 2 ^ 32 % 65536 = n % 65536 := by omega
  have hhigh : n % 2 ^ 32 / 65536 % 65536 = n / 65536 % 65536 := by omega
  rw [sysvFold_eq, sysvFold_eq, hlow, hhigh]

theorem narrow_sysvFold_toNat (n : Nat) : (narrow (sysvFold n)).toNat = sysvFold n :=
  narrow_toNat _ ((sysvFold_lt n).trans (by decide))

theorem compute_sysv_toNat (c : Config) (m : Message) :
    (compute c .sysv m).toNat = sysvFold (m.map BitVec.toNat).sum := by
  rw [← sysvFold_mod, ← (isMaskedSum_sysv c).workingState_toNat m]
  exact narrow_sysvFold_toNat _

/-- Settles O23: what the register loses of the unbounded sum, the folds do not read. -/
theorem sysvFoldsTheUnboundedSum : Obligations.SysvFoldsTheUnboundedSum := by
  refine ⟨fun b s => (isMaskedSum_sysv s.config).exec_absorb b, fun s hb ha => ?_, fun c m => ?_⟩
  · refine ⟨narrow (sysvFold s.acc0.toNat), ?_, ?_, exec_final_of_result hb ha rfl⟩
    · rw [narrow_sysvFold_toNat]
      exact sysvFold_lt _
    · have hhigh : s.acc0.toNat / 65536 % 65536 = s.acc0.toNat / 65536 := by
        have := s.acc0.isLt
        omega
      rw [narrow_sysvFold_toNat, sysvFold_eq, hhigh]
  · rw [compute_sysv_toNat, sysvFold_eq]

/-! XOR8, BSDSUM, and the five sums that publish ACC0. -/

/-- Within 16 bits the rotation moves the lowest bit to weight 2^15. -/
theorem ror16_eq {v : Nat} (h : v < 2 ^ 16) : ror16 v = v / 2 + v % 2 * 32768 := by
  have hhalf : v / 2 < 2 ^ 15 := by omega
  have hlow : v &&& 1 = v % 2 := Nat.and_one_is_mod v
  rw [ror16, hlow, Nat.shiftRight_eq_div_pow, pow_one, Nat.or_comm, ← Nat.shiftLeft_add_eq_or_of_lt hhalf,
    Nat.and_two_pow_sub_one_eq_mod _ 16, Nat.shiftLeft_eq]
  omega

theorem byteWord_eq_zeroExtend (b : Byte) : byteWord b = b.zeroExtend 32 := BitVec.ofNat_toNat 32 b

/-- Settles O22: the byte is zero-extended into the XOR, and added to the rotated register. -/
theorem xorAndRotateSums : Obligations.XorAndRotateSums := by
  refine ⟨fun b s hb ha => ?_, fun b s hb ha hacc0 => ?_⟩ <;> rw [exec_absorb_of_selected b hb ha, updateState]
  · rw [xor8Update, byteWord_eq_zeroExtend]
    rfl
  · rw [bsdsumUpdate, maskLow_eq_mod, ror16_eq hacc0]
    rfl

/-- Settles O26: `final` of the five sums is ACC0 itself. -/
theorem singleSumsPublishTheAccumulator : Obligations.SingleSumsPublishTheAccumulator := by
  intro a hmem s hb ha
  refine exec_final_of_result hb ha ?_
  simp only [List.mem_cons, List.not_mem_nil, or_false] at hmem
  obtain rfl | rfl | rfl | rfl | rfl := hmem <;> rfl

/-! The sums of two registers: FLETCHER16, FLETCHER32 and ADLER32. -/

/-- The sum of the bytes of `m`, each weighted by how many bytes are left from it on, as the rules R102, R105 and R108
write it. -/
def weightedSum (m : Message) : Nat := (m.zipIdx.map fun q => (m.length - q.2) * q.1.toNat).sum

theorem weightedSum_cons (b : Byte) (m : Message) :
    weightedSum (b :: m) = (m.length + 1) * b.toNat + weightedSum m := by
  simp [weightedSum, List.zipIdx_succ, Function.comp_def]

/-- One more byte raises every weight by one. -/
theorem weightedSum_concat (m : Message) (b : Byte) :
    weightedSum (m ++ [b]) = weightedSum m + ((m.map BitVec.toNat).sum + b.toNat) := by
  induction m with
  | nil => simp [weightedSum]
  | cons x m ih =>
    rw [List.cons_append, weightedSum_cons, weightedSum_cons, ih, List.length_append, List.length_singleton,
      List.map_cons, List.sum_cons]
    ring

/-- The algorithm starts from `i` and 0 and takes each byte in by `twoSums M`; its checksum has ACC1 above the low `k`
bits. -/
structure IsTwoSum (a : Alg) (M k i : Nat) : Prop where
  init : (initState a).1.toNat = i % M ∧ (initState a).2 = 0
  update : ∀ c a0 a1 b, updateState c a a0 a1 b = twoSums M a0 a1 b
  final : ∀ c a0 a1 n, finalState c a a0 a1 n = (composeHalves k a0 a1, a0)
  pos : 0 < M
  /-- A value below the modulus fits the low `k` bits. -/
  half : M ≤ 2 ^ k
  /-- Both halves fit RESULT (R27). -/
  fits : M * 2 ^ k ≤ 2 ^ 32

theorem isTwoSum_fletcher16 : IsTwoSum .fletcher16 255 8 0 :=
  ⟨⟨rfl, rfl⟩, fun _ _ _ _ => rfl, fun _ _ _ _ => rfl, by decide, by decide, by decide⟩

theorem isTwoSum_fletcher32 : IsTwoSum .fletcher32 65535 16 0 :=
  ⟨⟨rfl, rfl⟩, fun _ _ _ _ => rfl, fun _ _ _ _ => rfl, by decide, by decide, by decide⟩

theorem isTwoSum_adler32 : IsTwoSum .adler32 65521 16 1 :=
  ⟨⟨rfl, rfl⟩, fun _ _ _ _ => rfl, fun _ _ _ _ => rfl, by decide, by decide, by decide⟩

section
variable {a : Alg} {M k i : Nat}

theorem IsTwoSum.exec_absorb (h : IsTwoSum a M k i) {s : State} (b : Byte) (hb : s.busy = true) (ha : s.alg = some a) :
    exec (.absorb b) s = .next { s with
      acc0 := BitVec.ofNat 32 ((s.acc0.toNat + b.toNat) % M)
      acc1 := BitVec.ofNat 32 ((s.acc1.toNat + (s.acc0.toNat + b.toNat) % M) % M)
      len := (s.len + 1) % 2 ^ s.config.lenW } := by
  rw [exec_absorb_of_selected b hb ha, h.update]
  rfl

theorem IsTwoSum.modulus_le (h : IsTwoSum a M k i) : M ≤ 2 ^ 32 :=
  (Nat.le_mul_of_pos_right M (Nat.two_pow_pos k)).trans h.fits

/-- After a whole message: the bytes summed once in ACC0, and by their weights in ACC1, the start value counting in
ACC1 once for each byte. -/
theorem IsTwoSum.workingState_toNat (h : IsTwoSum a M k i) (c : Config) (m : Message) :
    (workingState c a m).1.toNat = (i + (m.map BitVec.toNat).sum) % M ∧
    (workingState c a m).2.toNat = (i * m.length + weightedSum m) % M := by
  induction m using List.reverseRecOn with
  | nil => simp [h.init, weightedSum]
  | append_singleton m b ih =>
    obtain ⟨ih0, ih1⟩ := ih
    have hsum : (i + (m.map BitVec.toNat).sum) % M + b.toNat ≡ i + ((m ++ [b]).map BitVec.toNat).sum [MOD M] := by
      simpa [← Nat.add_assoc] using (Nat.mod_modEq _ M).add_right b.toNat
    have hweighted : (i * m.length + weightedSum m) % M + (i + ((m ++ [b]).map BitVec.toNat).sum) % M ≡
        i * (m ++ [b]).length + weightedSum (m ++ [b]) [MOD M] := by
      refine ((Nat.mod_modEq _ M).add (Nat.mod_modEq _ M)).trans (congrArg (· % M) ?_)
      simp only [weightedSum_concat, List.map_append, List.sum_append, List.length_append, List.map_singleton,
        List.sum_singleton, List.length_singleton]
      ring
    simp only [workingState_concat, h.update, twoSums, byteValue, narrow_mod_toNat _ h.pos h.modulus_le, ih0, ih1]
    rw [hsum]
    exact ⟨rfl, hweighted⟩

theorem composeHalves_toNat {a0 a1 : Word} (h0 : a0.toNat < 2 ^ k) (hfits : a1.toNat * 2 ^ k + a0.toNat < 2 ^ 32) :
    (composeHalves k a0 a1).toNat = a1.toNat * 2 ^ k + a0.toNat := by
  rw [composeHalves, ← Nat.shiftLeft_add_eq_or_of_lt h0, Nat.shiftLeft_eq, publish_fits _ hfits, narrow_toNat _ hfits]

/-- Registers below the modulus compose without overlap, at most to the modulus less one in both halves. -/
theorem IsTwoSum.composeHalves_toNat_le (h : IsTwoSum a M k i) {a0 a1 : Word} (h0 : a0.toNat < M) (h1 : a1.toNat < M) :
    (composeHalves k a0 a1).toNat = a1.toNat * 2 ^ k + a0.toNat ∧
    (composeHalves k a0 a1).toNat ≤ (M - 1) * 2 ^ k + (M - 1) := by
  have hlow : a0.toNat < 2 ^ k := h0.trans_le h.half
  have hhigh : (a1.toNat + 1) * 2 ^ k ≤ M * 2 ^ k := Nat.mul_le_mul_right _ h1
  have heq := composeHalves_toNat (a1 := a1) hlow (by have := h.fits; rw [Nat.add_one_mul] at hhigh; omega)
  refine ⟨heq, heq ▸ ?_⟩
  exact Nat.add_le_add (Nat.mul_le_mul_right _ (Nat.le_sub_one_of_lt h1)) (Nat.le_sub_one_of_lt h0)

/-- FINAL within the bounds of R23. -/
theorem IsTwoSum.exec_final (h : IsTwoSum a M k i) {s : State} (hb : s.busy = true) (ha : s.alg = some a)
    (h0 : s.acc0.toNat < M) (h1 : s.acc1.toNat < M) :
    ∃ res : Word, res.toNat = s.acc1.toNat * 2 ^ k + s.acc0.toNat ∧ res.toNat ≤ (M - 1) * 2 ^ k + (M - 1) ∧
      exec .final s = .next { s with result := res, busy := false, valid := true } := by
  obtain ⟨heq, hle⟩ := h.composeHalves_toNat_le h0 h1
  exact ⟨_, heq, hle, exec_final_of_result hb ha (h.final ..)⟩

/-- The largest checksum. -/
theorem IsTwoSum.compute_toNat_le (h : IsTwoSum a M k i) (c : Config) (m : Message) :
    (compute c a m).toNat ≤ (M - 1) * 2 ^ k + (M - 1) := by
  obtain ⟨h0, h1⟩ := h.workingState_toNat c m
  rw [compute, closingState, h.final]
  exact (h.composeHalves_toNat_le (h0 ▸ Nat.mod_lt _ h.pos) (h1 ▸ Nat.mod_lt _ h.pos)).2

end

/-- Settles O24: the three are two-register sums, with their modulus and start value. -/
theorem twoRegisterSums : Obligations.TwoRegisterSums := by
  intro p hmem
  simp only [List.mem_cons, List.not_mem_nil, or_false] at hmem
  obtain rfl | rfl | rfl := hmem
  · exact ⟨fun b s => isTwoSum_fletcher16.exec_absorb b, isTwoSum_fletcher16.workingState_toNat⟩
  · exact ⟨fun b s => isTwoSum_fletcher32.exec_absorb b, isTwoSum_fletcher32.workingState_toNat⟩
  · exact ⟨fun b s => isTwoSum_adler32.exec_absorb b, isTwoSum_adler32.workingState_toNat⟩

/-- Settles O25: the halves do not overlap, and each is largest at the modulus less one. -/
theorem twoRegisterCompositions : Obligations.TwoRegisterCompositions := by
  intro p hmem s
  simp only [List.mem_cons, List.not_mem_nil, or_false] at hmem
  obtain rfl | rfl | rfl := hmem
  · exact isTwoSum_fletcher16.exec_final
  · exact isTwoSum_fletcher32.exec_final
  · exact isTwoSum_adler32.exec_final

/-- Settles O37: the working registers are within the bounds of R23, which `final` keeps within the width. -/
theorem checksumsFitTheirWidth : Obligations.ChecksumsFitTheirWidth := fun c m =>
  ⟨fun a => finalState_lt_width _ (workingState_inBounds c a m),
    (workingState_inBounds c .sum32 m).1,
    compute_sysv_toNat c m ▸ sysvFold_lt _,
    isTwoSum_fletcher16.compute_toNat_le c m,
    isTwoSum_fletcher32.compute_toNat_le c m,
    isTwoSum_adler32.compute_toNat_le c m⟩

end Sys2Proof.Machine

/-! # The CRC engine

The division steps, the byte steps of both variants, the length bytes and what FINAL does with the register
(R120 to R133). The laws of the byte steps are proved for Variant A; Variant B is its mirror image (R133 item 2). -/

namespace Sys2Proof.Machine

/-! The division step of Variant A, and both in numbers. -/

/-- The test and the branch of R122 as a multiple of the polynomial. -/
theorem divstepMsb_eq (r : Word) : divstepMsb r = r <<< 1 ^^^ (if r.getLsbD 31 then polyA else 0) := by
  rw [divstepMsb]
  split <;> simp

/-- Settles O27: the tested bit says whether 2r overflows, or whether r is odd. -/
theorem divisionStepsInNumbers : Obligations.DivisionStepsInNumbers := by
  intro r
  have htop : r.getLsbD 31 = true ↔ 2 ^ 31 ≤ r.toNat := by
    rw [← BitVec.msb_eq_getLsbD_last, BitVec.msb_eq_decide]
    exact decide_eq_true_iff
  have hlow : r.getLsbD 0 = true ↔ r.toNat % 2 = 1 := by simp [BitVec.getLsbD]
  constructor
  · rw [divstepMsb, apply_ite BitVec.toNat, BitVec.toNat_xor, BitVec.toNat_shiftLeft, Nat.shiftLeft_eq, pow_one,
      Nat.mul_comm]
    exact if_ctx_congr htop (fun _ => rfl) fun hsmall => Nat.mod_eq_of_lt (by omega)
  · rw [divstepLsb, apply_ite BitVec.toNat, BitVec.toNat_xor, BitVec.toNat_ushiftRight, Nat.shiftRight_eq_div_pow]
    exact if_congr hlow rfl rfl

/-- Two tested bits that are set bring the polynomial in twice, which cancels. -/
theorem divstepMsb_xor (r s : Word) : divstepMsb (r ^^^ s) = divstepMsb r ^^^ divstepMsb s := by
  have hpoly : ∀ x y : Bool, (if x ^^ y then polyA else 0) = (if x then polyA else 0) ^^^ (if y then polyA else 0) := by
    decide
  simp only [divstepMsb_eq, BitVec.shiftLeft_xor_distrib, BitVec.getLsbD_xor, hpoly]
  ac_rfl

/-- Bit 0 of the polynomial is set, so bit 0 of the result shows the bit that was shifted out. -/
theorem divstepMsb_getLsbD_zero (r : Word) : (divstepMsb r).getLsbD 0 = r.getLsbD 31 := by
  have hshift : (r <<< 1).getLsbD 0 = false := by simp
  rw [divstepMsb_eq, BitVec.getLsbD_xor, hshift, Bool.false_xor]
  cases r.getLsbD 31 <;> rfl

theorem divstepMsb_injective : Function.Injective divstepMsb := by
  intro r s h
  have htop : r.getLsbD 31 = s.getLsbD 31 := by rw [← divstepMsb_getLsbD_zero, h, divstepMsb_getLsbD_zero]
  have hshift : r <<< 1 = s <<< 1 := by
    rw [divstepMsb_eq, divstepMsb_eq, htop] at h
    exact (BitVec.xor_left_inj _).mp h
  refine BitVec.eq_of_getElem_eq fun i hi => ?_
  obtain rfl | hlt : i = 31 ∨ i + 1 < 32 := by omega
  · exact htop
  · simpa [hlt] using congrArg (·.getLsbD (i + 1)) hshift

theorem divstepMsb_bijective : Function.Bijective divstepMsb := Finite.injective_iff_bijective.mp divstepMsb_injective

/-! The byte step of Variant A with the byte taken in whole (R125). -/

theorem byteWord_shiftLeft_24 (b : Byte) : byteWord b <<< 24 = b ++ 0#24 := by
  rw [byteWord_eq_zeroExtend, BitVec.append_def, BitVec.shiftLeftZeroExtend_eq]
  exact BitVec.or_zero.symm

theorem crcaByte_eq_iterate (r : Word) (b : Byte) : crcaByte r b = divstepMsb^[8] (r ^^^ (b ++ 0#24)) := by
  rw [crcaByte, repeatStep_eq_iterate, byteWord_shiftLeft_24]

theorem crcaByte_xor (r s : Word) (b c : Byte) : crcaByte (r ^^^ s) (b ^^^ c) = crcaByte r b ^^^ crcaByte s c := by
  have hlinear : Function.Semiconj₂ divstepMsb (· ^^^ ·) (· ^^^ ·) := divstepMsb_xor
  have hentry : (r ^^^ s) ^^^ ((b ^^^ c) ++ 0#24) = (r ^^^ (b ++ 0#24)) ^^^ (s ^^^ (c ++ 0#24)) := by
    have hbytes : (b ++ 0#24) ^^^ (c ++ 0#24) = (b ^^^ c) ++ 0#24 := BitVec.xor_append
    rw [← hbytes]
    ac_rfl
  simp only [crcaByte_eq_iterate, hentry]
  exact hlinear.iterate 8 _ _

theorem crcaByte_bijective (b : Byte) : Function.Bijective fun r => crcaByte r b := by
  have hentry : Function.Involutive fun r : Word => r ^^^ (b ++ 0#24) := fun r => by simp
  simp only [crcaByte_eq_iterate]
  exact (divstepMsb_bijective.iterate 8).comp hentry.bijective

/-! The bit-serial form (R126). -/

/-- One step of R126 with the message bit `t`. -/
def serialMsb (r : Word) (t : Bool) : Word := if r.getLsbD 31 ^^ t then r <<< 1 ^^^ polyA else r <<< 1

/-- The top `n` bits of a word or a byte, the most significant of them first. -/
def topBits {w : Nat} (x : BitVec w) (n : Nat) : List Bool := (List.range n).map x.getMsbD

@[simp] theorem topBits_zero {w : Nat} (x : BitVec w) : topBits x 0 = [] := rfl

theorem topBits_succ {w : Nat} (x : BitVec w) (n : Nat) : topBits x (n + 1) = topBits x n ++ [x.getMsbD n] := by
  simp [topBits, List.range_succ]

theorem topBits_congr {v w n : Nat} {x : BitVec v} {y : BitVec w} (h : ∀ k < n, x.getMsbD k = y.getMsbD k) :
    topBits x n = topBits y n :=
  List.map_congr_left fun k hk => h k (List.mem_range.mp hk)

theorem shiftLeft_getLsbD_31 (x : Word) (n : Nat) : (x <<< n).getLsbD 31 = x.getMsbD n := by
  have hmsb : (x <<< n).getMsbD 0 = x.getMsbD n := by rw [BitVec.getMsbD_shiftLeft, Nat.zero_add]
  exact hmsb

/-- A word in the register acts on a step by its top bit only, and the step shifts it. -/
theorem divstepMsb_xor_eq_serialMsb (r x : Word) :
    divstepMsb (r ^^^ x) = serialMsb r (x.getLsbD 31) ^^^ x <<< 1 := by
  rw [divstepMsb, serialMsb, BitVec.getLsbD_xor, BitVec.shiftLeft_xor_distrib]
  split
  · ac_rfl
  · rfl

/-- The idea of R126: after `n` steps the bits not yet consumed ride in the top of the register. -/
theorem iterate_divstepMsb_xor (r x : Word) (n : Nat) :
    divstepMsb^[n] (r ^^^ x) = (topBits x n).foldl serialMsb r ^^^ x <<< n := by
  induction n with
  | zero => simp
  | succ n ih =>
    rw [Function.iterate_succ_apply', ih, divstepMsb_xor_eq_serialMsb, shiftLeft_getLsbD_31, topBits_succ,
      List.foldl_concat, BitVec.shiftLeft_add]

theorem crcaByte_eq_foldl (r : Word) (b : Byte) : crcaByte r b = (topBits b 8).foldl serialMsb r := by
  have hbits : topBits (b ++ 0#24) 8 = topBits b 8 :=
    topBits_congr fun k hk => by rw [BitVec.getMsbD_append, if_neg (Nat.not_le.mpr hk)]
  have hconsumed : (byteWord b <<< 24) <<< 8 = 0#32 := by
    rw [← BitVec.shiftLeft_add]
    exact BitVec.shiftLeft_eq_zero le_rfl
  rw [crcaByte_eq_iterate, iterate_divstepMsb_xor, hbits, ← byteWord_shiftLeft_24, hconsumed, BitVec.xor_zero]

/-- Against the register's own bits no step subtracts. -/
theorem foldl_serialMsb_topBits (r : Word) (n : Nat) : (topBits r n).foldl serialMsb r = r <<< n := by
  induction n with
  | zero => simp
  | succ n ih =>
    rw [topBits_succ, List.foldl_concat, ih, serialMsb, shiftLeft_getLsbD_31, Bool.xor_self, BitVec.shiftLeft_add]
    rfl

theorem crcaByte_top (r : Word) : crcaByte r (r.extractLsb' 24 8) = r <<< 8 := by
  have hbits : topBits (r.extractLsb' 24 8) 8 = topBits r 8 := topBits_congr fun k hk => by
    have hpos : 32 - (32 - k) = k := by omega
    simp [BitVec.getMsbD_extractLsb', hk, hpos]
  rw [crcaByte_eq_foldl, hbits, foldl_serialMsb_topBits]

/-! The mirror (R133 item 2). -/

theorem reverse_xor {w : Nat} (x y : BitVec w) : (x ^^^ y).reverse = x.reverse ^^^ y.reverse :=
  BitVec.eq_of_getLsbD_eq fun i _ => by simp [BitVec.getLsbD_reverse]

theorem reverse_shiftLeft {w : Nat} (x : BitVec w) (n : Nat) : (x <<< n).reverse = x.reverse >>> n :=
  BitVec.eq_of_getLsbD_eq fun i _ => by simp [BitVec.getLsbD_reverse, Nat.add_comm]

theorem reverse_getLsbD_zero (r : Word) : r.reverse.getLsbD 0 = r.getLsbD 31 := BitVec.getLsbD_reverse

/-- R121: `POLY_B[i] = POLY_A[31 - i]`. -/
theorem polyA_reverse : polyA.reverse = polyB := by
  refine BitVec.eq_of_getLsbD_eq fun i hi => ?_
  rw [BitVec.getLsbD_reverse]
  revert i
  decide

theorem divstepMsb_reverse (r : Word) : (divstepMsb r).reverse = divstepLsb r.reverse := by
  rw [divstepMsb, divstepLsb, reverse_getLsbD_zero, apply_ite BitVec.reverse, reverse_xor, reverse_shiftLeft,
    polyA_reverse]

theorem divstepLsb_eq_mirror (r : Word) : divstepLsb r = (divstepMsb r.reverse).reverse := by
  rw [divstepMsb_reverse, BitVec.reverse_reverse_eq]

theorem byteWord_eq_append (b : Byte) : byteWord b = 0#24 ++ b := by
  rw [byteWord_eq_zeroExtend, BitVec.zeroExtend, BitVec.setWidth_eq_append (by decide)]
  rfl

theorem crcbByte_eq_iterate (r : Word) (b : Byte) : crcbByte r b = divstepLsb^[8] (r ^^^ (0#24 ++ b)) := by
  rw [crcbByte, repeatStep_eq_iterate, byteWord_eq_append]

theorem crcaByte_reverse (r : Word) (b : Byte) : (crcaByte r b).reverse = crcbByte r.reverse b.reverse := by
  have hmirror : Function.Semiconj BitVec.reverse divstepMsb divstepLsb := divstepMsb_reverse
  have hentry : (b ++ 0#24).reverse = 0#24 ++ b.reverse := BitVec.reverse_append
  rw [crcaByte_eq_iterate, crcbByte_eq_iterate, hmirror.iterate_right 8, reverse_xor, hentry]

/-- Variant B through the mirror: every law of `crcaByte` carries over. -/
theorem crcbByte_eq_mirror (r : Word) (b : Byte) : crcbByte r b = (crcaByte r.reverse b.reverse).reverse := by
  rw [crcaByte_reverse, BitVec.reverse_reverse_eq, BitVec.reverse_reverse_eq]

/-- Settles O31: step by step, then over the eight steps of a byte. -/
theorem variantsAreMirrorImages : Obligations.VariantsAreMirrorImages :=
  ⟨polyA_reverse.symm, fun r b => ⟨divstepMsb_reverse r, crcaByte_reverse r b⟩⟩

/-- Settles O30: a division step is linear, and the mirror keeps XOR. -/
theorem crcBytesAreLinear : Obligations.CrcBytesAreLinear := fun r s b c =>
  ⟨crcaByte_xor r s b c, by simp only [crcbByte_eq_mirror, reverse_xor, crcaByte_xor]⟩

theorem mirror_bijective {f : Word → Word} (hf : Function.Bijective f) :
    Function.Bijective fun r : Word => (f r.reverse).reverse := by
  have hreverse : Function.Bijective (BitVec.reverse : Word → Word) :=
    Function.Involutive.bijective fun _ => BitVec.reverse_reverse_eq
  exact hreverse.comp (hf.comp hreverse)

/-- Settles O32: a division step loses no bit, and the byte's entry is undone by a second one. -/
theorem crcBytesAreBijections : Obligations.CrcBytesAreBijections := by
  refine ⟨divstepMsb_bijective, ?_, fun b => ⟨crcaByte_bijective b, ?_⟩⟩
  · rw [funext divstepLsb_eq_mirror]
    exact mirror_bijective divstepMsb_bijective
  · have hmirror := mirror_bijective (crcaByte_bijective b.reverse)
    simpa only [crcbByte_eq_mirror] using hmirror

/-- One step of the mirror of R126 with the message bit `t` (R130). -/
def serialLsb (r : Word) (t : Bool) : Word := if r.getLsbD 0 ^^ t then r >>> 1 ^^^ polyB else r >>> 1

theorem serialMsb_reverse (r : Word) (t : Bool) : (serialMsb r t).reverse = serialLsb r.reverse t := by
  rw [serialMsb, serialLsb, reverse_getLsbD_zero, apply_ite BitVec.reverse, reverse_xor, reverse_shiftLeft,
    polyA_reverse]

theorem crcbByte_eq_foldl (r : Word) (b : Byte) : crcbByte r b = (topBits b.reverse 8).foldl serialLsb r := by
  rw [crcbByte_eq_mirror, crcaByte_eq_foldl, ← List.foldl_hom _ fun x t => (serialMsb_reverse x t).symm,
    BitVec.reverse_reverse_eq]

/-- Settles O29: the byte's bits in the order of either variant. -/
theorem bitSerialFormsAgree : Obligations.BitSerialFormsAgree := by
  intro r b
  have hmsb : topBits b 8 = [7, 6, 5, 4, 3, 2, 1, 0].map b.getLsbD := rfl
  have hlsb : topBits b.reverse 8 = [0, 1, 2, 3, 4, 5, 6, 7].map b.getLsbD := by
    simp [topBits, List.range_succ, BitVec.getMsbD_reverse]
  rw [crcaByte_eq_foldl, crcbByte_eq_foldl, hmsb, hlsb, List.foldl_map, List.foldl_map]
  exact ⟨rfl, rfl⟩

/-- The byte at the low end is, in the mirror, the byte at the top. -/
theorem crcbByte_low (r : Word) : crcbByte r (r.extractLsb' 0 8) = r >>> 8 := by
  have hbyte : (r.extractLsb' 0 8).reverse = r.reverse.extractLsb' 24 8 := by
    refine BitVec.eq_of_getMsbD_eq fun i hi => ?_
    have hpos : 32 - (32 - i) = i := by omega
    simp [BitVec.getMsbD_reverse, BitVec.getMsbD_extractLsb', hi, hpos]
  rw [crcbByte_eq_mirror, hbyte, crcaByte_top, reverse_shiftLeft, BitVec.reverse_reverse_eq]

/-- Settles O28: the update of either variant is its byte step. -/
theorem crcBytesAreEightDivisions : Obligations.CrcBytesAreEightDivisions := by
  refine ⟨fun b s hb ha => ?_, fun b s hb ha => ?_, fun r => ⟨crcaByte_top r, crcbByte_low r⟩⟩
  · rw [exec_absorb_of_selected b hb ha, updateState, crc32aUpdate, crcaByte_eq_iterate]
    rfl
  · rw [exec_absorb_of_selected b hb ha, updateState, crc32bUpdate, crcbByte_eq_iterate]
    rfl

/-! The length bytes (R127). -/

/-- Fuel `n` is enough for `n`. -/
theorem digits256_eq_digits {fuel n : Nat} (h : n ≤ fuel) :
    digits256 fuel n = (Nat.digits 256 n).map (BitVec.ofNat 8) := by
  induction fuel generalizing n with
  | zero =>
    obtain rfl := Nat.le_zero.mp h
    rfl
  | succ fuel ih =>
    obtain rfl | hpos := Nat.eq_zero_or_pos n
    · simp
    · have hdigit : n &&& 0xFF = n % 256 := Nat.and_two_pow_sub_one_eq_mod n 8
      have hrest : n >>> 8 = n / 256 := Nat.shiftRight_eq_div_pow n 8
      rw [digits256_pos fuel hpos, Nat.digits_def' (by decide) hpos, List.map_cons, hdigit, hrest, ih (by omega)]

theorem lenBytes_lsbFirst (n : Nat) : lenBytes .lsbFirst n = (Nat.digits 256 n).map (BitVec.ofNat 8) :=
  digits256_eq_digits le_rfl

theorem map_toNat_lenBytes (n : Nat) : (lenBytes .lsbFirst n).map BitVec.toNat = Nat.digits 256 n := by
  rw [lenBytes_lsbFirst, List.map_map]
  refine (List.map_congr_left fun d hd => ?_).trans (List.map_id _)
  exact (BitVec.toNat_ofNat d 8).trans (Nat.mod_eq_of_lt (Nat.digits_lt_base (by decide) hd))

theorem length_lenBytes (n : Nat) : (lenBytes .lsbFirst n).length = (Nat.digits 256 n).length := by
  rw [← map_toNat_lenBytes, List.length_map]

theorem lenBytes_getLast_ne_zero {n : Nat} (hn : n ≠ 0) : (lenBytes .lsbFirst n).getLast? ≠ some 0 := by
  intro hlast
  have hzero : (Nat.digits 256 n).getLast? = some 0 := by
    rw [← map_toNat_lenBytes, List.getLast?_map, hlast]
    rfl
  rw [List.getLast?_eq_getLast_of_ne_nil (Nat.digits_ne_nil_iff_ne_zero.mpr hn)] at hzero
  exact Nat.getLast_digit_ne_zero 256 hn (Option.some.inj hzero)

/-- Settles O33: the bytes are the library's base-256 digits. -/
theorem lengthBytesAreBase256Digits : Obligations.LengthBytesAreBase256Digits := by
  refine ⟨lenBytes_zero _, fun n => ⟨fun hpos => ?_, ?_, ?_, fun hpos => ⟨?_, lenBytes_getLast_ne_zero hpos.ne'⟩, rfl⟩⟩
  · rw [lenBytes_lsbFirst, lenBytes_lsbFirst, Nat.digits_def' (by decide) hpos, List.map_cons]
  · rw [← List.foldr_map (f := BitVec.toNat) (g := fun d acc => d + 256 * acc), map_toNat_lenBytes]
    exact (Nat.ofDigits_eq_foldr 256 _).symm.trans (Nat.ofDigits_digits 256 n)
  · rw [length_lenBytes]
    exact Nat.lt_base_pow_length_digits (by decide)
  · rw [length_lenBytes, Nat.length_digits 256 n (by decide) hpos.ne']
    exact Nat.pow_log_le_self 256 hpos.ne'

/-! FINAL under either variant (R128, R131). -/

theorem complement32_eq (r : Word) : complement32 r = ~~~r := BitVec.xor_allOnes

theorem exec_final_crc32a {s : State} (hb : s.busy = true) (ha : s.alg = some .crc32a) :
    exec .final s = .next { s with
      result := ~~~ (crc32aDrain s.config.lenOrder s.acc0 s.len)
      acc0 := crc32aDrain s.config.lenOrder s.acc0 s.len
      busy := false, valid := true } := by
  rw [exec_final_of_selected hb ha, finalState, crc32aFinal, complement32_eq]
  rfl

theorem lenBytes_pow (k : Nat) : lenBytes .lsbFirst (256 ^ k) = List.replicate k 0 ++ [1] := by
  have hdigits : Nat.digits 256 (256 ^ k) = List.replicate k 0 ++ [1] := by
    simpa using Nat.digits_base_pow_mul (b := 256) (k := k) (m := 1) (by decide) (by decide)
  rw [lenBytes_lsbFirst, hdigits, List.map_append, List.map_replicate]
  rfl

/-- Zero bytes leave a register of 0 as it is (R124). -/
theorem foldl_crcaByte_zeros (k : Nat) : (List.replicate k 0).foldl crcaByte 0 = 0 := by
  induction k with
  | zero => rfl
  | succ k ih =>
    have hzero : crcaByte 0 0 = 0 := by decide
    rw [List.replicate_succ, List.foldl_cons, hzero, ih]

/-- Settles O34: the drain is a fold of the byte step over the length bytes, of which the zeros do nothing to a register
of 0. -/
theorem crc32aDrainsTheLength : Obligations.Crc32aDrainsTheLength := by
  refine ⟨fun s => exec_final_crc32a, fun s hb ha hlen => ?_, fun c k hc => ?_⟩
  · rw [exec_final_crc32a hb ha, hlen, crc32aDrain, lenBytes_zero]
    rfl
  · rw [finalState, crc32aFinal, crc32aDrain, hc, lenBytes_pow, List.foldl_append, foldl_crcaByte_zeros]
    decide

/-- Settles O35: nothing is drained, and ACC0 stays. -/
theorem crc32bComplementsTheRegister : Obligations.Crc32bComplementsTheRegister := fun s hb ha =>
  exec_final_of_result hb ha (by rw [finalState, crc32bFinal, complement32_eq])

end Sys2Proof.Machine

/-! # The host's side of the contract

A whole message through the machine (R140, R145): the state while its bytes are taken in, the state it ends in, and that
NOPs between its commands change nothing. -/

namespace Sys2Proof.Machine

open Sys2Proof.Safety

/-- The state `s` with algorithm `a` selected and a message open of which the bytes `m` have been taken in. -/
def openedState (a : Alg) (m : Message) (s : State) : State :=
  { s with
    acc0 := (workingState s.config a m).1, acc1 := (workingState s.config a m).2
    len := m.length % 2 ^ s.config.lenW, alg := some a, busy := true, valid := false }

/-- The state `s` after the whole message `m` under algorithm `a`: the elements R145 lists. -/
def publishedState (a : Alg) (m : Message) (s : State) : State :=
  { s with
    acc0 := (closingState s.config a m).2, acc1 := (workingState s.config a m).2
    len := m.length % 2 ^ s.config.lenW, alg := some a, result := compute s.config a m
    busy := false, valid := true }

section
variable {s : State} {a : Alg}

theorem exec_start_eq_openedState (ha : s.alg = some a) : exec .start s = .next (openedState a [] s) := by
  rw [exec_start_of_selected ha]
  simp [openMessage, flagsOpen, openedState, ha]

theorem exec_absorb_openedState (b : Byte) (m : Message) :
    exec (.absorb b) (openedState a m s) = .next (openedState a (m ++ [b]) s) := by
  rw [exec_absorb_of_selected b rfl rfl]
  simp [absorbInto, openedState, workingState_concat]

theorem exec_final_openedState (m : Message) : exec .final (openedState a m s) = .next (publishedState a m s) :=
  exec_final_of_selected rfl rfl

/-- The bytes `m` extend an open message, whatever commands follow. -/
theorem runCommands_absorbs (p m : Message) (is : List Instr) :
    runCommands (m.map .absorb ++ is) (openedState a p s) = runCommands is (openedState a (p ++ m) s) := by
  induction m generalizing p with
  | nil => simp
  | cons b m ih => simpa using (runCommands_cons _ rfl (exec_absorb_openedState b p)).trans (ih (p ++ [b]))

/-- MESSAGE (R61) from any state with an algorithm selected, open message or not. -/
theorem runCommands_messageCommands (ha : s.alg = some a) (m : Message) :
    runCommands (messageCommands m) s = .next { publishedState a m s with inputs := [] } := by
  calc runCommands (messageCommands m) s
    _ = runCommands (m.map Instr.absorb ++ [Instr.final]) (openedState a [] s) :=
      runCommands_cons _ rfl (exec_start_eq_openedState ha)
    _ = runCommands [.final] (openedState a m s) := runCommands_absorbs [] m [.final]
    _ = runCommands [] (publishedState a m s) := runCommands_cons [] rfl (exec_final_openedState m)
    _ = .next { publishedState a m s with inputs := [] } := runInputs_nil _

end

/-- NOPs anywhere in a run change nothing (R71). -/
theorem runCommands_filter_ne_nop (is : List Instr) (s : State) :
    runCommands (is.filter fun i => decide (i ≠ .nop)) s = runCommands is s := by
  induction is generalizing s with
  | nil => rfl
  | cons i is ih =>
    by_cases hi : i = .nop
    · subst hi
      rw [List.filter_cons_of_neg (by simp), ih]
      exact (runCommands_cons is rfl rfl).symm
    · obtain ⟨u, hu⟩ := acceptInput_total (.command (encode i)) s
      rw [List.filter_cons, if_pos (by simpa using hi)]
      calc runCommands (i :: is.filter fun i => decide (i ≠ .nop)) s
        _ = runCommands (is.filter fun i => decide (i ≠ .nop)) u := runInputs_cons _ hu
        _ = runCommands is u := ih u
        _ = runCommands (i :: is) s := (runInputs_cons _ hu).symm

/-- Settles O48: without its NOPs the run is START, the bytes one by one, and FINAL. -/
theorem messageComputesItsChecksum : Obligations.MessageComputesItsChecksum := by
  intro a m is s ha his
  rw [← runCommands_filter_ne_nop, his]
  exact runCommands_messageCommands ha m

/-- Settles O49: SELECT is admitted while idle, and the message then runs as from any state. -/
theorem computeFromAnyIdleState : Obligations.ComputeFromAnyIdleState := by
  intro a m s hb
  have hselect : exec (.select a.code) s = .next (selectAlgorithm a s) := exec_select_of_idle (ofCode_code a) hb
  have hrun := (runCommands_cons (messageCommands m) (code_wellFormed a) hselect).trans
    (runCommands_messageCommands rfl m)
  exact ⟨_, hrun, rfl, rfl, rfl, rfl, rfl, rfl⟩

/-! The hexadecimal rendering (R143): `toHex` maps the library's base-16 digits to characters, and back. -/

/-- The number that a hexadecimal digit stands for. -/
def digitValue (ch : Char) : Nat := if ch ≤ '9' then ch.toNat - 48 else ch.toNat - 87

theorem digitValue_hexDigit {d : Nat} (hd : d < 16) : digitValue (hexDigit d) = d := by
  revert d; decide

theorem hexDigit_lowercase {d : Nat} (hd : d < 16) :
    ('0' ≤ hexDigit d ∧ hexDigit d ≤ '9') ∨ ('a' ≤ hexDigit d ∧ hexDigit d ≤ 'f') := by
  revert d; decide

/-- Fuel `v` is enough for `v`. -/
theorem hexDigits_eq_digits {fuel v : Nat} (h : v ≤ fuel) (tail : List Char) :
    hexDigits fuel v tail = (Nat.digits 16 v).reverse.map hexDigit ++ tail := by
  induction fuel generalizing v tail with
  | zero =>
    obtain rfl := Nat.le_zero.mp h
    rfl
  | succ fuel ih =>
    obtain rfl | hpos := Nat.eq_zero_or_pos v
    · simp [hexDigits]
    · rw [hexDigits, if_neg hpos.ne', ih (by omega), Nat.digits_def' (by decide) hpos]
      simp

theorem toHex_of_pos {v : Nat} (hv : 0 < v) : toHex v = (Nat.digits 16 v).reverse.map hexDigit := by
  rw [toHex, if_neg hv.ne', hexDigits_eq_digits le_rfl, List.append_nil]

theorem map_digitValue_toHex {v : Nat} (hv : 0 < v) : (toHex v).map digitValue = (Nat.digits 16 v).reverse := by
  rw [toHex_of_pos hv, List.map_map]
  refine (List.map_congr_left fun d hd => ?_).trans (List.map_id _)
  exact digitValue_hexDigit (Nat.digits_lt_base (by decide) (List.mem_reverse.mp hd))

theorem toHex_head_ne_zero {v : Nat} (hv : 0 < v) : (toHex v).head? ≠ some '0' := by
  intro hhead
  have hlast : (Nat.digits 16 v).getLast? = some 0 := by
    rw [← List.head?_reverse, ← map_digitValue_toHex hv, List.head?_map, hhead]
    rfl
  rw [List.getLast?_eq_getLast_of_ne_nil (Nat.digits_ne_nil_iff_ne_zero.mpr hv.ne')] at hlast
  exact Nat.getLast_digit_ne_zero 16 hv.ne' (Option.some.inj hlast)

theorem toHex_lowercase {v : Nat} (hv : 0 < v) {ch : Char} (hch : ch ∈ toHex v) :
    ('0' ≤ ch ∧ ch ≤ '9') ∨ ('a' ≤ ch ∧ ch ≤ 'f') := by
  rw [toHex_of_pos hv] at hch
  obtain ⟨d, hd, rfl⟩ := List.mem_map.mp hch
  exact hexDigit_lowercase (Nat.digits_lt_base (by decide) (List.mem_reverse.mp hd))

theorem length_toHex {v : Nat} (hv : 0 < v) : (toHex v).length = Nat.log 16 v + 1 := by
  rw [toHex_of_pos hv, List.length_map, List.length_reverse, Nat.length_digits 16 v (by decide) hv.ne']

/-- Read from the left, the digits of `toHex v` give `v` back. -/
theorem toHex_foldl {v : Nat} (hv : 0 < v) : (toHex v).foldl (fun acc ch => 16 * acc + digitValue ch) 0 = v := by
  calc (toHex v).foldl (fun acc ch => 16 * acc + digitValue ch) 0
    _ = (Nat.digits 16 v).reverse.foldl (fun acc d => 16 * acc + d) 0 := by
      rw [← map_digitValue_toHex hv, List.foldl_map]
    _ = (Nat.digits 16 v).foldr (fun d acc => d + 16 * acc) 0 := by
      simp only [List.foldl_reverse, Nat.add_comm]
    _ = v := (Nat.ofDigits_eq_foldr 16 _).symm.trans (Nat.ofDigits_digits 16 v)

/-- Settles O54: the characters are the library's base-16 digits, most significant first. -/
theorem hexRenderingIsExact : Obligations.HexRenderingIsExact :=
  ⟨rfl, fun _ hv => ⟨toHex_head_ne_zero hv, fun _ => toHex_lowercase hv, length_toHex hv, toHex_foldl hv⟩⟩

end Sys2Proof.Machine

/-! # Protocol errors and waiting

What raises which cause (R152, R153), what a raise leaves behind (R154), that ERR and CAUSE gate nothing (R155), and that
nothing happens without an input (R159). -/

namespace Sys2Proof.Machine

/-- Settles O9: by induction over the steps, each of them idle. -/
theorem nothingHappensWithoutInput : Obligations.NothingHappensWithoutInput := by
  intro n s h
  induction n with
  | zero => rfl
  | succ n ih => exact (core_run_succ (step_idle h)).trans ih

/-! The fields ERR and CAUSE of STATUS (R28). -/

theorem statusPort_eq_concat (s : State) :
    statusPort s = (((causeCode s.cause).concat s.err).concat s.valid).concat s.busy := rfl

theorem statusPort_getLsbD_2 (s : State) : (statusPort s).getLsbD 2 = s.err := by
  rw [statusPort_eq_concat, BitVec.getLsbD_concat_succ, BitVec.getLsbD_concat_succ, BitVec.getLsbD_concat_zero]

theorem statusPort_extract_cause (s : State) : (statusPort s).extractLsb' 3 3 = causeCode s.cause := by
  ext i hi
  rw [statusPort_eq_concat, BitVec.getElem_extractLsb', Nat.add_comm 3 i]
  simp only [BitVec.getLsbD_concat_succ, BitVec.getLsbD_eq_getElem hi]

/-- Settles O8: the two equations of a raise, and STATUS read off them. -/
theorem raiseRecordsFirstCause : Obligations.RaiseRecordsFirstCause := by
  refine fun c s => ⟨raiseProtocolError_of_no_err c, raiseProtocolError_of_err c, statusPort_getLsbD_2 _, fun he => ?_⟩
  rw [statusPort_extract_cause, raiseProtocolError_of_no_err c he, causeCode]

/-! The cause table. -/

section
variable {w : CommandWord} {c : ProtocolError} {s t : State}

/-- The condition of a cause's row in the table of R152: the decoder's answer, and for the causes of an admission check
the command and the state that fail it. -/
def Raises (w : CommandWord) (s : State) : ProtocolError → Prop
  | .reservedOpcode => decode w = .illegal .reservedOpcode
  | .nonZeroField => decode w = .illegal .nonZeroField
  | .reservedAlgorithm => decode w = .illegal .reservedAlgorithm
  | .selectWhileBusy => (∃ a, decode w = .legal (.select a)) ∧ s.busy = true
  | .startNoAlgorithm => decode w = .legal .start ∧ s.alg = none
  | .absorbWhileIdle => (∃ b, decode w = .legal (.absorb b)) ∧ s.busy = false
  | .finalWhileIdle => decode w = .legal .final ∧ s.busy = false

theorem raises_of_decode_illegal (s : State) (hw : decode w = .illegal c) : Raises w s c := by
  obtain rfl | rfl | rfl := decode_causes hw <;> exact hw

theorem acceptWord_of_raises (h : Raises w s c) : acceptWord w s = .next (raiseProtocolError c s) := by
  obtain ⟨hillegal, hselect, hstart, habsorb, hfinal, -⟩ := admissionChecks w s
  cases c with
  | reservedOpcode | nonZeroField | reservedAlgorithm => exact hillegal _ h
  | selectWhileBusy =>
    obtain ⟨⟨a, hw⟩, hb⟩ := h
    exact hselect a hw hb
  | startNoAlgorithm =>
    obtain ⟨hw, ha⟩ := h
    exact hstart hw ha
  | absorbWhileIdle =>
    obtain ⟨⟨b, hw⟩, hb⟩ := h
    exact habsorb b hw hb
  | finalWhileIdle =>
    obtain ⟨hw, hb⟩ := h
    exact hfinal hw hb

/-- A decoded command is refused for a row of the table, or completes and leaves ERR and CAUSE as they were. -/
theorem exec_raises_or_completes {i : Instr} (hw : decode w = .legal i) (h : exec i s = .next t) :
    (∃ c, Raises w s c ∧ t = raiseProtocolError c s) ∨ (t.err = s.err ∧ t.cause = s.cause) := by
  cases i with
  | nop => cases h; exact .inr ⟨rfl, rfl⟩
  | select a =>
    obtain ⟨hn, -⟩ | ⟨_, -, hb, ht⟩ | ⟨_, -, -, rfl⟩ := execSelect_cases h
    · simpa [hn] using ofCode_isSome_of_decode_select hw
    · exact .inl ⟨.selectWhileBusy, ⟨⟨a, hw⟩, hb⟩, ht⟩
    · exact .inr ⟨rfl, rfl⟩
  | start =>
    obtain ⟨hn, ht⟩ | ⟨_, -, rfl⟩ := execStart_cases h
    · exact .inl ⟨.startNoAlgorithm, ⟨hw, hn⟩, ht⟩
    · exact .inr ⟨rfl, rfl⟩
  | absorb b =>
    obtain ⟨hb, ht⟩ | ⟨-, rfl⟩ := execAbsorb_cases h
    · exact .inl ⟨.absorbWhileIdle, ⟨⟨b, hw⟩, hb⟩, ht⟩
    · exact .inr ⟨rfl, rfl⟩
  | final =>
    obtain ⟨hb, ht⟩ | ⟨-, rfl⟩ := execFinal_cases h
    · exact .inl ⟨.finalWhileIdle, ⟨hw, hb⟩, ht⟩
    · exact .inr ⟨rfl, rfl⟩

theorem acceptWord_raises_or_completes (h : acceptWord w s = .next t) :
    (∃ c, Raises w s c ∧ t = raiseProtocolError c s) ∨ (t.err = s.err ∧ t.cause = s.cause) := by
  cases hw : decode w with
  | illegal c =>
    rw [acceptWord_illegal s hw] at h
    exact .inl ⟨c, raises_of_decode_illegal s hw, (Host.Outcome.next.inj h).symm⟩
  | legal i =>
    rw [acceptWord_legal s hw] at h
    exact exec_raises_or_completes hw h

/-- With no error recorded, CAUSE names the row whose condition holds; no two rows compete, since a word has one next
state (R153). -/
theorem cause_eq_some_iff_raises (he : s.err = false) (hc : s.cause = none) (h : acceptWord w s = .next t) :
    t.cause = some c ↔ Raises w s c := by
  constructor
  · intro ht
    obtain ⟨c', hraises, rfl⟩ | ⟨-, hcause⟩ := acceptWord_raises_or_completes h
    · obtain rfl : c' = c := by simpa [he] using ht
      exact hraises
    · simp [hcause, hc] at ht
  · intro hraises
    rw [acceptWord_of_raises hraises] at h
    cases h
    simp [he]

theorem err_iff_cause_ne_none (he : s.err = false) (hc : s.cause = none) (h : acceptWord w s = .next t) :
    t.err = true ↔ t.cause ≠ none := by
  obtain ⟨c, -, rfl⟩ | ⟨herr, hcause⟩ := acceptWord_raises_or_completes h
  · simp [he]
  · simp [herr, hcause, he, hc]

/-! The codes 1 to 7 tell the causes apart, and 0 and 0xF are free for none. -/

theorem causeCode_eq_code_iff {o : Option ProtocolError} : causeCode o = c.code ↔ o = some c := by
  cases o with
  | none => cases c <;> decide
  | some c' => cases c <;> cases c' <;> decide

theorem causeCode_eq_zero_iff {o : Option ProtocolError} : causeCode o = 0 ↔ o = none := by
  cases o with
  | none => decide
  | some c => cases c <;> decide

theorem algCode_eq_none_iff {o : Option Alg} : algCode o = 0xF ↔ o = none := by
  cases o with
  | none => decide
  | some a => cases a <;> decide

/-! The commands' words in numbers (R52). -/

theorem decode_select_iff : (∃ a, decode w = .legal (.select a)) ↔
    w.toNat / 4096 = 1 ∧ w.toNat % 256 = 0 ∧ w.toNat / 256 % 16 ≤ 0xA := by
  obtain ⟨-, hselect, -⟩ := opcodeMapSelectsCommands.1 w
  simp only [hselect, and_selectMask_iff, exists_and_left, exists_eq_left', and_assoc]
  rw [BitVec.toNat_eq, BitVec.toNat_eq, opField_toNat, algField_toNat, dataField_toNat]
  rfl

theorem decode_absorb_iff : (∃ b, decode w = .legal (.absorb b)) ↔
    w.toNat / 4096 = 3 ∧ w.toNat / 256 % 16 = 0 := by
  obtain ⟨-, -, -, habsorb, -⟩ := opcodeMapSelectsCommands.1 w
  simp only [habsorb, and_absorbMask_iff, exists_and_left, exists_eq', and_true]
  rw [BitVec.toNat_eq, BitVec.toNat_eq, opField_toNat, algField_toNat]
  rfl

theorem decode_start_iff : decode w = .legal .start ↔ w = 0x2000 := by
  rw [decode_eq_legal_iff, eq_comm (a := w)]
  exact and_iff_right rfl

theorem decode_final_iff : decode w = .legal .final ↔ w = 0x4000 := by
  rw [decode_eq_legal_iff, eq_comm (a := w)]
  exact and_iff_right rfl

end

/-- Settles O43: CAUSE is the row whose condition holds, and each row's condition is read in numbers of the word. -/
theorem causeTable : Obligations.CauseTable := by
  intro w s t he hc h
  obtain ⟨hreserved, hzero, hcode, -⟩ := decoderRefusals w
  have hrow (c : ProtocolError) : causeCode t.cause = c.code ↔ Raises w s c :=
    causeCode_eq_code_iff.trans (cause_eq_some_iff_raises he hc h)
  refine ⟨(hrow .reservedOpcode).trans hreserved, (hrow .nonZeroField).trans hzero,
    (hrow .reservedAlgorithm).trans hcode, (hrow .selectWhileBusy).trans ?_, (hrow .startNoAlgorithm).trans ?_,
    (hrow .absorbWhileIdle).trans ?_, (hrow .finalWhileIdle).trans ?_, ?_⟩
  · rw [Raises, decode_select_iff, and_assoc, and_assoc]
  · rw [Raises, decode_start_iff, algCode_eq_none_iff]
  · rw [Raises, decode_absorb_iff, and_assoc]
  · rw [Raises, decode_final_iff]
  · rw [err_iff_cause_ne_none he hc h, ne_eq, ne_eq, causeCode_eq_zero_iff]

/-! ERR and CAUSE gate nothing. -/

theorem exec_select_of_reserved {a : BitVec 4} {s : State} (ha : Alg.ofCode? a = none) :
    exec (.select a) s = .next (raiseProtocolError .reservedAlgorithm s) := by
  simp [exec, execSelect, ha]

/-- The admission checks and the effects of the commands read neither ERR nor CAUSE. -/
theorem exec_withError {i : Instr} {s t : State} (e : Bool) (c : Option ProtocolError) (h : exec i s = .next t) :
    ∃ u, exec i { s with err := e, cause := c } = .next u ∧ { u with err := t.err, cause := t.cause } = t := by
  cases i with
  | nop => cases h; exact ⟨_, rfl, rfl⟩
  | select a =>
    obtain ⟨hn, rfl⟩ | ⟨alg, ha, hb, rfl⟩ | ⟨alg, ha, hb, rfl⟩ := execSelect_cases h
    · exact ⟨_, exec_select_of_reserved hn, rfl⟩
    · exact ⟨_, exec_select_of_busy ha hb, rfl⟩
    · exact ⟨_, exec_select_of_idle ha hb, rfl⟩
  | start =>
    obtain ⟨hn, rfl⟩ | ⟨a, ha, rfl⟩ := execStart_cases h
    · exact ⟨_, exec_start_of_unselected hn, rfl⟩
    · exact ⟨_, exec_start_of_selected ha, rfl⟩
  | absorb b =>
    obtain ⟨hb, rfl⟩ | ⟨hb, rfl⟩ := execAbsorb_cases h
    · exact ⟨_, exec_absorb_of_idle b hb, rfl⟩
    · exact ⟨_, exec_absorb_of_busy b hb, rfl⟩
  | final =>
    obtain ⟨hb, rfl⟩ | ⟨hb, rfl⟩ := execFinal_cases h
    · exact ⟨_, exec_final_of_idle hb, rfl⟩
    · exact ⟨_, exec_final_of_busy hb, rfl⟩

/-- Settles O45: reset and the decoder's refusals do not read ERR and CAUSE, and neither does a command. -/
theorem errGatesNothing : Obligations.ErrGatesNothing := by
  intro x s t e c h
  obtain ⟨rfl, rfl⟩ | ⟨w, cause, rfl, hw, rfl⟩ | ⟨w, i, rfl, hw, hi⟩ := acceptInput_cases h
  · exact ⟨_, rfl, rfl⟩
  · exact ⟨_, acceptWord_illegal _ hw, rfl⟩
  · obtain ⟨u, hu, hut⟩ := exec_withError e c hi
    exact ⟨u, (acceptWord_legal _ hw).trans hu, hut⟩

end Sys2Proof.Machine

/-! # Several blocks

The blocks of a system share nothing (R161): an input to one block is that block's step, and inputs to different blocks
commute. -/

namespace Sys2Proof.Machine

section
variable {k : Nat} {x : HostInput} {bs bs' : List State}

theorem acceptAt_of_some {s t : State} (hk : bs[k]? = some s) (h : acceptInput x s = .next t) :
    acceptAt k x bs = .next (bs.set k t) := by
  simp [acceptAt, hk, h]

theorem acceptAt_of_none (x : HostInput) (hk : bs[k]? = none) : acceptAt k x bs = .next bs := by
  simp [acceptAt, hk]

theorem acceptAt_total (k : Nat) (x : HostInput) (bs : List State) : ∃ bs', acceptAt k x bs = .next bs' := by
  cases hk : bs[k]? with
  | none => exact ⟨bs, acceptAt_of_none x hk⟩
  | some s =>
    obtain ⟨t, ht⟩ := acceptInput_total x s
    exact ⟨_, acceptAt_of_some hk ht⟩

/-- Everything an input to block `k` can do: nothing where there is no such block (log 11), else that block's step. -/
theorem acceptAt_cases (h : acceptAt k x bs = .next bs') :
    (bs[k]? = none ∧ bs' = bs) ∨ (∃ s t, bs[k]? = some s ∧ acceptInput x s = .next t ∧ bs' = bs.set k t) := by
  cases hk : bs[k]? with
  | none =>
    rw [acceptAt_of_none x hk] at h
    exact .inl ⟨rfl, (Host.Outcome.next.inj h).symm⟩
  | some s =>
    obtain ⟨t, ht⟩ := acceptInput_total x s
    rw [acceptAt_of_some hk ht] at h
    exact .inr ⟨s, t, rfl, ht, (Host.Outcome.next.inj h).symm⟩

theorem acceptAt_getElem?_ne {j : Nat} (hjk : j ≠ k) (h : acceptAt k x bs = .next bs') : bs'[j]? = bs[j]? := by
  obtain ⟨-, rfl⟩ | ⟨s, t, -, -, rfl⟩ := acceptAt_cases h
  · rfl
  · exact List.getElem?_set_ne hjk.symm

/-- An input to block `k` neither sees nor disturbs another block's new state. -/
theorem acceptAt_set_ne {j : Nat} (hjk : j ≠ k) (u : State) (h : acceptAt k x bs = .next bs') :
    acceptAt k x (bs.set j u) = .next (bs'.set j u) := by
  have hkeep : (bs.set j u)[k]? = bs[k]? := List.getElem?_set_ne hjk
  obtain ⟨hk, rfl⟩ | ⟨s, t, hk, ht, rfl⟩ := acceptAt_cases h
  · exact acceptAt_of_none x (hkeep.trans hk)
  · rw [acceptAt_of_some (hkeep.trans hk) ht, List.set_comm u t hjk]

end

/-- Settles O55: the block's step is total, and writing it back changes that entry of the list alone. -/
theorem inputReachesItsBlockAlone : Obligations.InputReachesItsBlockAlone := by
  intro k x bs s hk
  obtain ⟨t, ht⟩ := acceptInput_total x s
  obtain ⟨hlt, -⟩ := List.getElem?_eq_some_iff.mp hk
  have hbs := acceptAt_of_some hk ht
  exact ⟨t, _, ht, hbs, List.getElem?_set_self hlt, List.length_set, fun j hjk => acceptAt_getElem?_ne hjk hbs⟩

/-- Settles O53: block `j` has the same state before and after the input to block `k`, and its write passes through. -/
theorem inputsToDifferentBlocksCommute : Obligations.InputsToDifferentBlocksCommute := by
  intro j k x y bs bs₁ bs₂ hjk h₁ h₂
  obtain ⟨bs₃, h₃⟩ := acceptAt_total k y bs
  refine ⟨bs₃, h₃, ?_⟩
  have hkeep : bs₃[j]? = bs[j]? := acceptAt_getElem?_ne hjk h₃
  obtain ⟨hj, rfl⟩ | ⟨s, t, hj, ht, rfl⟩ := acceptAt_cases h₁
  · rw [acceptAt_of_none x (hkeep.trans hj), ← h₃, h₂]
  · rw [acceptAt_of_some (hkeep.trans hj) ht, ← acceptAt_set_ne hjk t h₃, h₂]

end Sys2Proof.Machine

/-! # Reset and hazards

The reset event and what only it can do (R155, R170), the order of a message's bytes (R175), and the open parameters
(R7, R176). -/

namespace Sys2Proof.Machine

open Sys2Proof.Safety

/-! The reset event. -/

/-- ALG is written by SELECT alone, and always with an algorithm (R25, R72). -/
theorem exec_keeps_selected {i : Instr} {s t : State} (hsel : s.alg ≠ none) (h : exec i s = .next t) :
    t.alg ≠ none := by
  obtain ⟨c, rfl⟩ | ⟨-, rfl⟩ | ⟨_, alg, -, -, -, rfl⟩ | ⟨a, -, -, rfl⟩ | ⟨b, -, -, rfl⟩ | ⟨-, -, rfl⟩ := exec_cases h
  case inr.inr.inl => exact Option.some_ne_none alg
  all_goals exact hsel

theorem acceptWord_keeps_selected {w : CommandWord} {s t : State} (hsel : s.alg ≠ none)
    (h : acceptWord w s = .next t) : t.alg ≠ none := by
  obtain ⟨hx, -⟩ | ⟨-, c, -, -, rfl⟩ | ⟨-, i, -, -, hi⟩ := acceptInput_cases (x := .command w) h
  · cases hx
  · exact hsel
  · exact exec_keeps_selected hsel hi

/-- Settles O12: the step on reset is the reset event, and a command's word keeps a recorded error and a selection. -/
theorem resetEventAndOnlyReset : Obligations.ResetEventAndOnlyReset :=
  ⟨fun _ _ hinputs => step_input hinputs, fun w _ _ h =>
    ⟨fun herr => acceptInput_keeps_error (x := .command w) (by simp) herr h,
      fun hsel => acceptWord_keeps_selected hsel h⟩⟩

/-! The order of the bytes: where two updates commute, the fold over a message does not see it. -/

/-- The bytes enter one sum, whose reduction can wait. -/
theorem IsMaskedSum.rightCommutative {c : Config} {a : Alg} {k : Nat} (h : IsMaskedSum c a k) :
    RightCommutative fun p : Word × Word => updateState c a p.1 p.2 := by
  have hfits : 2 ^ k ≤ 2 ^ 32 := Nat.pow_le_pow_right (by decide) h.width
  refine ⟨fun p b b' => ?_⟩
  simp only [h.update, maskedSum_eq, narrow_mod_toNat _ (Nat.two_pow_pos k) hfits, Nat.mod_add_mod,
    Nat.add_right_comm _ b.toNat]

theorem rightCommutative_xor8 (c : Config) :
    RightCommutative fun p : Word × Word => updateState c .xor8 p.1 p.2 :=
  ⟨fun p b b' => by simp only [updateState, xor8Update, BitVec.xor_assoc, BitVec.xor_comm (byteWord b)]⟩

theorem compute_perm {c : Config} {a : Alg} (hcomm : RightCommutative fun p : Word × Word => updateState c a p.1 p.2)
    {m m' : Message} (h : m.Perm m') : compute c a m = compute c a m' := by
  have hfold : workingState c a m = workingState c a m' := h.foldl_eq (initState a)
  rw [compute, compute, closingState, closingState, hfold, h.length_eq]

/-- Settles O39: the five sums are folds of commuting updates; the other six tell the
message 1, 2 from 2, 1. -/
theorem orderMattersForSixAlgorithms : Obligations.OrderMattersForSixAlgorithms := by
  refine ⟨fun a hmem c m m' h => compute_perm ?_ h, fun a hmem => ⟨[1, 2], [2, 1], .swap 2 1 [], ?_⟩⟩
  · simp only [List.mem_cons, List.not_mem_nil, or_false] at hmem
    obtain rfl | rfl | rfl | rfl | rfl := hmem
    · exact (isMaskedSum_sum8 c).rightCommutative
    · exact (isMaskedSum_sum16 c).rightCommutative
    · exact (isMaskedSum_sum32 c).rightCommutative
    · exact rightCommutative_xor8 c
    · exact (isMaskedSum_sysv c).rightCommutative
  · revert a
    decide +kernel

/-! The open parameters: SUM32_W is read by SUM32's update, LEN_W and LEN_ORDER by CRC32A's drain (R90, R127). -/

section
variable {a : Alg}

theorem updateState_config_irrelevant (ha : a ≠ .sum32) (c c' : Config) (a0 a1 : Word) (b : Byte) :
    updateState c a a0 a1 b = updateState c' a a0 a1 b := by
  cases a with
  | sum32 => exact absurd rfl ha
  | sum8 | sum16 | xor8 | bsdsum | sysv | fletcher16 | fletcher32 | adler32 | crc32a | crc32b => rfl

theorem workingState_config_irrelevant (ha : a ≠ .sum32) (c c' : Config) (m : Message) :
    workingState c a m = workingState c' a m := by
  simp only [workingState, updateState_config_irrelevant ha c c']

/-- Only CRC32A reads LEN and LEN_ORDER. -/
theorem finalState_config_irrelevant (ha : a ≠ .crc32a) (c c' : Config) (a0 a1 : Word) (n n' : Nat) :
    finalState c a a0 a1 n = finalState c' a a0 a1 n' := by
  cases a with
  | crc32a => exact absurd rfl ha
  | sum8 | sum16 | sum32 | xor8 | bsdsum | sysv | fletcher16 | fletcher32 | adler32 | crc32b => rfl

end

/-- A length below 256 has at most one byte, and LEN_ORDER nothing to reorder. -/
theorem lenBytes_eq_lsbFirst (o : LenOrder) {n : Nat} (hn : n < 256) : lenBytes o n = lenBytes .lsbFirst n := by
  cases o with
  | lsbFirst => rfl
  | msbFirst =>
    have hrev : lenBytes .msbFirst n = (lenBytes .lsbFirst n).reverse := rfl
    obtain rfl | hne := eq_or_ne n 0
    · rfl
    · rw [hrev, lenBytes_lsbFirst, Nat.digits_of_lt 256 n hne hn]
      rfl

/-- The checksum of a message that LEN counts exactly and in one byte. -/
theorem compute_crc32a_of_short {c : Config} {m : Message} (hshort : m.length < 256) (hcount : m.length < 2 ^ c.lenW) :
    compute c .crc32a m = (crc32aFinal .lsbFirst (workingState c .crc32a m).1 m.length).1 := by
  rw [compute, closingState, Nat.mod_eq_of_lt hcount, finalState]
  simp only [crc32aFinal, crc32aDrain, lenBytes_eq_lsbFirst _ hshort]

/-- Settles O40: a parameter reaches a checksum through `update` of SUM32 and `final` of CRC32A only. -/
theorem parametersMatterOnlyWhereLeftOpen : Obligations.ParametersMatterOnlyWhereLeftOpen := by
  refine fun c c' m => ⟨fun a hsum hcrc => ?_, fun hshort hcount hcount' => ?_⟩
  · rw [compute, compute, closingState, closingState, workingState_config_irrelevant hsum c c']
    exact congrArg Prod.fst (finalState_config_irrelevant hcrc c c' _ _ _ _)
  · rw [compute_crc32a_of_short hshort hcount, compute_crc32a_of_short hshort hcount',
      workingState_config_irrelevant (by decide) c c']

end Sys2Proof.Machine
